-- ==== Sys2Proof/Word.lean ====
section
/-! DEFINITION. The base types of the block: the widths of its registers (R8, R15), the type of time values
(R6, R32), callback handles (R33) and edge kinds (R12). -/

namespace Sys2Proof

/-- A 64-bit unsigned value: ACC, a timestamp slot, WINDOW_TICKS, an age or a tick count (R8, R44). -/
abbrev U64 := BitVec 64

/-- A value of the counter or the capture register, CTR_WIDTH = 16 bits (R6, R22, R24). -/
abbrev Ctr := BitVec 16

/-- A 16-bit operation word (R55). -/
abbrev OpWord := BitVec 16

/-- A value of the open type `Time` of R6, held as a code.
DESIGN CHOICE (entry 3, safe): the spec leaves the type open; no operation computes on the code, and every
function on time values is an opaque constant of `Config`. -/
structure Time where
  /-- The code of the value. -/
  code : Nat
  deriving DecidableEq, Repr, Inhabited

/-- An opaque callback handle (R6, R33). NULL is `none` of `Option Handle` (R12).
DESIGN CHOICE (entry 5, safe): the spec says only that a handle is opaque; two handles are equal when their
identities are. -/
structure Handle where
  /-- The identity of the handle. -/
  id : Nat
  deriving DecidableEq, Repr, Inhabited

/-- The two edge kinds of R12 (entry 19). -/
inductive EdgeKind where
  | rising
  | falling
  deriving DecidableEq, Repr, Inhabited

end Sys2Proof
end

