-- ==== Sys2Proof/Config.lean ====
section
/-! DEFINITION. The implementation parameters of R6: the open ones that are plain data (`Params`, which every
step takes from the state, entry 1), and the open functions and constants of the type `Time` (opaque constants
of `Config`, entry 3). -/

namespace Sys2Proof

/-- The open parameters of R6 that are plain data. A model takes each as an argument (R6), and no operation
writes one (R41). DESIGN CHOICE (entries 1 and 2, safe): they travel in the state, and the finite maps are
lists of pairs. -/
structure Params where
  /-- M − 2, so that every value of the field is a legal modulus 2 ≤ M ≤ 2^16 (R6, D3). -/
  modulusLessTwo : Fin 65535
  /-- PRESCALER_SET: index and divisor (R6, D20). -/
  prescalerSet : List (Nat × Nat)
  /-- HANDLES: slot and handle (R6, D25). -/
  handles : List (Nat × Handle)
  /-- F_CLK, the clock frequency that feeds the prescaler (R6, D20). -/
  fClk : Nat
  /-- INITIAL_EDGE, the edge the capture unit is armed for at reset (R6, D8). -/
  initialEdge : EdgeKind
  /-- PIN0, the level of the input signal at reset (R6, D10). -/
  pin0 : Bool
  deriving DecidableEq, Repr, Inhabited

/-- MODULUS, called M in every rule: the count at which the counter wraps, and the accumulator increment
(R6, R70). -/
def Params.modulus (p : Params) : Nat :=
  p.modulusLessTwo.val + 2

namespace Config

/-- The parameters of the machine that `State.reset` resets. Opaque: R7 forbids a hard-wired M. -/
opaque params : Params

/-- `tzero`, the exact zero of `Time` (R6). -/
opaque tzero : Time

/-- `tmul`, ticks times tick time (R6, D19). -/
opaque tmul : U64 → Time → Time

/-- `tickTimeOf`, the tick time of a prescaler divisor at the clock frequency F_CLK (R6, D20): the first
argument is F_CLK, the second the divisor. -/
opaque tickTimeOf : Nat → Nat → Time

/-- `secondsToTicks`, the capture window in ticks of a window in seconds and a tick time; its rounding is open
(R6, D20). -/
opaque secondsToTicks : Time → Time → U64

/-- The value of type `Time` that stands for a number of seconds. DESIGN CHOICE (entry 4, safe): the spec
names a decimal number of seconds (R6, R63) and leaves the type of time values open. -/
opaque timeOfSeconds : Rat → Time

/-- DEFAULT_WINDOW_S, 0.1 s (R6): the capture window of a CONFIG that gives none. -/
def defaultWindowS : Time :=
  timeOfSeconds (1 / 10)

end Config

end Sys2Proof
end

