-- ==== Sys2Proof/Syntax.lean ====
section
/-! DEFINITION. The operations of the block as syntax: one constructor of `Instr` per row of
spec/opcode_table.json (R59), the agents that issue them (R103), the reasons a record is refused (R112) and the
operation record (R56). -/

namespace Sys2Proof

/-- Who issues an operation (R2, R103). -/
inductive Agent where
  | environment
  | overflowLevel
  | overflowCallback
  | captureLevel
  | captureCallback
  | foreground
  deriving DecidableEq, Repr

/-- Why a record is refused (R112). -/
inductive RefuseReason where
  | reservedOpcode
  | reservedArg
  | badPrescaler
  | configWhileRunning
  | badHandleSlot
  deriving DecidableEq, Repr

/-- The fifteen operations of R59 with their operands (R57). The index `p` of CONFIG and the slot `h` of the
setters are numbers, which `Instr.wf` keeps below 256 (entry 15); 0 is NO_CLOCK and NULL. -/
inductive Instr where
  /-- TICK (R69). -/
  | tick
  /-- EDGE K (R77). -/
  | edge (k : EdgeKind)
  /-- EDGE_MISS K (R78). -/
  | edgeMiss (k : EdgeKind)
  /-- OVF_SVC (R71). -/
  | ovfSvc
  /-- CAPT_SVC (R80). -/
  | captSvc
  /-- OVF_CB_RET (R73). -/
  | ovfCbRet
  /-- CAPT_CB_RET (R82). -/
  | captCbRet
  /-- CONFIG P [, W] (R94), with the side operand W of R56. -/
  | config (p : Nat) (w : Option Time)
  /-- START (R96). -/
  | start
  /-- STOP (R97). -/
  | stop
  /-- SET_OVF_CB H (R98). -/
  | setOvfCb (h : Nat)
  /-- SET_CAPT_CB H (R99). -/
  | setCaptCb (h : Nat)
  /-- GET_TICK_TIME (R100). -/
  | getTickTime
  /-- GET_CAPTURE_WINDOW (R101). -/
  | getCaptureWindow
  /-- GET_DUTY_AND_PERIOD (R85). -/
  | getDutyAndPeriod
  deriving DecidableEq, Repr

/-- The agent of an operation (R59, R103). -/
def Instr.agent : Instr → Agent
  | .tick => .environment
  | .edge _ => .environment
  | .edgeMiss _ => .environment
  | .ovfSvc => .overflowLevel
  | .captSvc => .captureLevel
  | .ovfCbRet => .overflowCallback
  | .captCbRet => .captureCallback
  | .config _ _ => .foreground
  | .start => .foreground
  | .stop => .foreground
  | .setOvfCb _ => .foreground
  | .setCaptCb _ => .foreground
  | .getTickTime => .foreground
  | .getCaptureWindow => .foreground
  | .getDutyAndPeriod => .foreground

/-- An operation record: the 16-bit word and the side operand W, the capture window in seconds, which only
CONFIG reads (R56). A trace is a finite list of records. -/
structure OpRecord where
  /-- The operation word. -/
  word : OpWord
  /-- The side operand W, or absent. -/
  window : Option Time
  deriving DecidableEq, Repr

end Sys2Proof
end

