-- ==== Sys2Proof/WellFormed.lean ====
section
/-! DEFINITION. Which terms of `Instr` an operation record can name: the index P and the slot H are one
argument byte (R55, R57). -/

namespace Sys2Proof

/-- The operand checks of R57: `P = zext_8(ARG)` and `H = zext_8(ARG)` are below 256. Every other operand fits
its field by its type. -/
def Instr.wf : Instr → Bool
  | .tick => true
  | .edge _ => true
  | .edgeMiss _ => true
  | .ovfSvc => true
  | .captSvc => true
  | .ovfCbRet => true
  | .captCbRet => true
  | .config p _ => decide (p < 256)
  | .start => true
  | .stop => true
  | .setOvfCb h => decide (h < 256)
  | .setCaptCb h => decide (h < 256)
  | .getTickTime => true
  | .getCaptureWindow => true
  | .getDutyAndPeriod => true

/-- A well-formed instruction. -/
abbrev Instr.WellFormed (i : Instr) : Prop :=
  i.wf = true

end Sys2Proof
end

