-- ==== Sys2Proof/Decode.lean ====
section
/-! DEFINITION. The operation encoding of 30_encoding.md: the opcode map (R59), the fields of a word (R55), the
decoder, total on every record (R60), and the encoder written from the same tables (R55, R63). -/

namespace Sys2Proof

/-- The mnemonics of the opcode map (R59). -/
inductive OpName where
  | TICK | EDGE | EDGE_MISS
  | OVF_SVC | CAPT_SVC | OVF_CB_RET | CAPT_CB_RET
  | CONFIG | START | STOP | SET_OVF_CB | SET_CAPT_CB
  | GET_TICK_TIME | GET_CAPTURE_WINDOW | GET_DUTY_AND_PERIOD
  deriving DecidableEq, Repr

/-- Every mnemonic, in the order of R59. -/
def OpName.all : List OpName :=
  [.TICK, .EDGE, .EDGE_MISS, .OVF_SVC, .CAPT_SVC, .OVF_CB_RET, .CAPT_CB_RET, .CONFIG, .START, .STOP,
    .SET_OVF_CB, .SET_CAPT_CB, .GET_TICK_TIME, .GET_CAPTURE_WINDOW, .GET_DUTY_AND_PERIOD]

/-- The OPC column of R59. -/
def OpName.opc : OpName → BitVec 8
  | .TICK => 0x01
  | .EDGE => 0x02
  | .EDGE_MISS => 0x03
  | .OVF_SVC => 0x10
  | .CAPT_SVC => 0x11
  | .OVF_CB_RET => 0x12
  | .CAPT_CB_RET => 0x13
  | .CONFIG => 0x20
  | .START => 0x21
  | .STOP => 0x22
  | .SET_OVF_CB => 0x23
  | .SET_CAPT_CB => 0x24
  | .GET_TICK_TIME => 0x25
  | .GET_CAPTURE_WINDOW => 0x26
  | .GET_DUTY_AND_PERIOD => 0x27

/-- The four formats of R55, which differ only in how ARG is read. -/
inductive Format where
  | N | K | P | H
  deriving DecidableEq, Repr

/-- The format column of R59. -/
def OpName.format : OpName → Format
  | .TICK => .N
  | .EDGE => .K
  | .EDGE_MISS => .K
  | .OVF_SVC => .N
  | .CAPT_SVC => .N
  | .OVF_CB_RET => .N
  | .CAPT_CB_RET => .N
  | .CONFIG => .P
  | .START => .N
  | .STOP => .N
  | .SET_OVF_CB => .H
  | .SET_CAPT_CB => .H
  | .GET_TICK_TIME => .N
  | .GET_CAPTURE_WINDOW => .N
  | .GET_DUTY_AND_PERIOD => .N

/-- Bits [15:8] of a word, OPC (R55). -/
def opcField (word : OpWord) : BitVec 8 :=
  word.extractLsb' 8 8

/-- Bits [7:0] of a word, ARG (R55). -/
def argField (word : OpWord) : BitVec 8 :=
  word.extractLsb' 0 8

/-- The operation an opcode names, if it is in the map (R59). -/
def opNameOf (opc : BitVec 8) : Option OpName :=
  OpName.all.find? fun o => o.opc == opc

/-- Whether a format reserves this argument byte (R55, R61): N wants ARG = 0, K wants ARG[7:1] = 0, P and H
take every byte. -/
def Format.reserves (f : Format) (arg : BitVec 8) : Bool :=
  match f with
  | .N => arg != 0
  | .K => arg.extractLsb' 1 7 != 0
  | .P => false
  | .H => false

/-- An edge kind from the bit K: 1 is RISING, 0 is FALLING (R58). -/
def edgeKindOfBit (b : Bool) : EdgeKind :=
  if b then .rising else .falling

/-- The bit K of an edge kind (R58). -/
def bitOfEdgeKind : EdgeKind → Bool
  | .rising => true
  | .falling => false

/-- The instruction of an operation, its argument byte and its side operand (R57). Nothing is sign-extended,
scaled or shifted. -/
def buildInstr (o : OpName) (arg : BitVec 8) (w : Option Time) : Instr :=
  match o with
  | .TICK => .tick
  | .EDGE => .edge (edgeKindOfBit (arg.getLsbD 0))
  | .EDGE_MISS => .edgeMiss (edgeKindOfBit (arg.getLsbD 0))
  | .OVF_SVC => .ovfSvc
  | .CAPT_SVC => .captSvc
  | .OVF_CB_RET => .ovfCbRet
  | .CAPT_CB_RET => .captCbRet
  | .CONFIG => .config arg.toNat w
  | .START => .start
  | .STOP => .stop
  | .SET_OVF_CB => .setOvfCb arg.toNat
  | .SET_CAPT_CB => .setCaptCb arg.toNat
  | .GET_TICK_TIME => .getTickTime
  | .GET_CAPTURE_WINDOW => .getCaptureWindow
  | .GET_DUTY_AND_PERIOD => .getDutyAndPeriod

/-- Decoding, with the checks in the order of R60. -/
def decode (r : OpRecord) : Except RefuseReason Instr :=
  match opNameOf (opcField r.word) with
  | none => .error .reservedOpcode
  | some o =>
    if o.format.reserves (argField r.word) then .error .reservedArg
    else if o != .CONFIG && r.window.isSome then .error .reservedArg
    else .ok (buildInstr o (argField r.word) r.window)

/-- The mnemonic of an instruction (R59). -/
def Instr.opName : Instr → OpName
  | .tick => .TICK
  | .edge _ => .EDGE
  | .edgeMiss _ => .EDGE_MISS
  | .ovfSvc => .OVF_SVC
  | .captSvc => .CAPT_SVC
  | .ovfCbRet => .OVF_CB_RET
  | .captCbRet => .CAPT_CB_RET
  | .config _ _ => .CONFIG
  | .start => .START
  | .stop => .STOP
  | .setOvfCb _ => .SET_OVF_CB
  | .setCaptCb _ => .SET_CAPT_CB
  | .getTickTime => .GET_TICK_TIME
  | .getCaptureWindow => .GET_CAPTURE_WINDOW
  | .getDutyAndPeriod => .GET_DUTY_AND_PERIOD

/-- The argument byte of an edge kind: ARG[0] = K, ARG[7:1] = 0 (R55). -/
def argOfEdgeKind (k : EdgeKind) : BitVec 8 :=
  if bitOfEdgeKind k then 1 else 0

/-- The argument byte of an instruction (R55). Of an ill-formed operand the low 8 bits are kept (entry 20). -/
def Instr.arg : Instr → BitVec 8
  | .tick => 0
  | .edge k => argOfEdgeKind k
  | .edgeMiss k => argOfEdgeKind k
  | .ovfSvc => 0
  | .captSvc => 0
  | .ovfCbRet => 0
  | .captCbRet => 0
  | .config p _ => BitVec.ofNat 8 p
  | .start => 0
  | .stop => 0
  | .setOvfCb h => BitVec.ofNat 8 h
  | .setCaptCb h => BitVec.ofNat 8 h
  | .getTickTime => 0
  | .getCaptureWindow => 0
  | .getDutyAndPeriod => 0

/-- The side operand of an instruction: only CONFIG has one (R56). -/
def Instr.window : Instr → Option Time
  | .tick => none
  | .edge _ => none
  | .edgeMiss _ => none
  | .ovfSvc => none
  | .captSvc => none
  | .ovfCbRet => none
  | .captCbRet => none
  | .config _ w => w
  | .start => none
  | .stop => none
  | .setOvfCb _ => none
  | .setCaptCb _ => none
  | .getTickTime => none
  | .getCaptureWindow => none
  | .getDutyAndPeriod => none

/-- The word `(OPC << 8) | ARG` (R63). -/
def wordOf (opc arg : BitVec 8) : OpWord :=
  (opc.setWidth 16 <<< 8) ||| arg.setWidth 16

/-- The record of an instruction (R55, R56, R63). -/
def encode (i : Instr) : OpRecord :=
  { word := wordOf i.opName.opc i.arg, window := i.window }

/-- The word the host's table numbers give: `nbits` bits, zero above (entry 16). -/
def tableWord (nbits w : Nat) : OpWord :=
  BitVec.ofNat 16 (w % 2 ^ nbits)

/-- What the decoder reads from a word of spec/opcode_table.json: the record has no side operand, and a
refused record gives no instruction. -/
def decodeTableWord (nbits w : Nat) : Option Instr :=
  match decode { word := tableWord nbits w, window := none } with
  | .ok i => some i
  | .error _ => none

end Sys2Proof
end

