-- ==== Sys2Proof/Machine/State.lean ====
section
/-! DEFINITION. The state of the block (R15 to R35), plain data; the output labels (R66); how a step can stop;
and the reset state (R42, R122). -/

namespace Sys2Proof.Machine

/-- The output label of a step (R66). -/
inductive Label where
  /-- `None`: every step that the other labels do not name. -/
  | none
  /-- `TickTime(t)`, of GET_TICK_TIME. -/
  | tickTime (t : Time)
  /-- `Window(t)`, of GET_CAPTURE_WINDOW. -/
  | window (t : Time)
  /-- `DutyPeriod(duty_ticks, duty_time, period_ticks, period_time)`, of GET_DUTY_AND_PERIOD (R84). -/
  | dutyPeriod (dutyTicks : U64) (dutyTime : Time) (periodTicks : U64) (periodTime : Time)
  /-- `NotifyOvf(h)`: the overflow callback `h` is invoked (R71). -/
  | notifyOvf (h : Handle)
  /-- `NotifyCapt(h)`: the capture callback `h` is invoked (R80). -/
  | notifyCapt (h : Handle)
  /-- `Refused(reason)`: the record was refused (R111). -/
  | refused (r : RefuseReason)
  deriving DecidableEq, Repr

/-- The state. The fields down to `refused` are the spec's; `label`, `trace` and `params` are the model's own
(entries 8, 7 and 1). -/
structure State where
  /-- ACC, the overflow accumulator (R17). -/
  acc : U64
  /-- CUR_RISE, the current rising timestamp (R18). -/
  curRise : U64
  /-- PREV_RISE, the previous rising timestamp (R19). -/
  prevRise : U64
  /-- FALL, the falling timestamp (R20). -/
  fall : U64
  /-- TCNT, the hardware counter (R22). -/
  tcnt : Ctr
  /-- ICR, the capture register (R24). -/
  icr : Ctr
  /-- OVF_PENDING, the overflow-pending flag (R23). -/
  ovfPending : Bool
  /-- ICF, the capture unit's pending-interrupt flag (R25). -/
  icf : Bool
  /-- EDGE_SEL, the edge kind the capture unit is armed for (R26). -/
  edgeSel : EdgeKind
  /-- PIN, the level of the input signal (R27). -/
  pin : Bool
  /-- RUNNING: the counter clock runs (R28). -/
  running : Bool
  /-- OVF_IE, the overflow interrupt enable (R29). -/
  ovfIe : Bool
  /-- CAPT_IE, the capture interrupt enable (R29). -/
  captIe : Bool
  /-- CLK_SEL, the selected prescaler index, 0 = NO_CLOCK (R30). -/
  clkSel : BitVec 8
  /-- WINDOW_TICKS, the capture window in ticks (R31). -/
  windowTicks : U64
  /-- TICK_TIME, the duration of one tick (R32). -/
  tickTime : Time
  /-- OVF_CB, the overflow callback or NULL (R33). -/
  ovfCb : Option Handle
  /-- CAPT_CB, the capture callback or NULL (R33). -/
  captCb : Option Handle
  /-- CTX_OVF: the overflow callback runs (R34). -/
  ctxOvf : Bool
  /-- CTX_CAPT: the capture callback runs (R34). -/
  ctxCapt : Bool
  /-- REFUSED, the sticky mark of a refused record (R35). -/
  refused : Bool
  /-- The output label of the step that led here (R66). -/
  label : Label
  /-- The operation records still to be issued, oldest first (R16, R56). -/
  trace : List OpRecord
  /-- The open parameters that are plain data (R6, R41). -/
  params : Params
  deriving DecidableEq, Repr

/-- Why the machine stops. Neither is an exception of the block, which raises none (R110). -/
inductive Fault where
  /-- The operation at the head of the trace is not enabled, so its agent has no step and the trace stops there
  (R10, R65). Raised by every operation whose enabling condition does not hold. Safe (entry 6). -/
  | notEnabled (a : Agent)
  /-- The trace has ended, and with it the run (R137). Raised by `step` on an empty trace. Safe (entry 7). -/
  | traceEnded
  deriving DecidableEq, Repr

/-- Why the model gives an instruction no meaning. No step answers with it: a record the spec refuses is a next
state (R111, entry 9). -/
inductive Refusal where
  /-- The instruction has no meaning yet. Raised by no arm of `exec`. Safe. -/
  | notModelled (mnemonic : String)
  deriving DecidableEq, Repr

/-- The reset state for given parameters (R42, R122, entry 13): every register and flag 0, both callbacks NULL,
`TICK_TIME = tzero`, `EDGE_SEL = INITIAL_EDGE` and `PIN = PIN0`. The trace is empty (entry 7) and the label is
None (entry 8). -/
def State.resetWith (p : Params) : State where
  acc := 0
  curRise := 0
  prevRise := 0
  fall := 0
  tcnt := 0
  icr := 0
  ovfPending := false
  icf := false
  edgeSel := p.initialEdge
  pin := p.pin0
  running := false
  ovfIe := false
  captIe := false
  clkSel := 0
  windowTicks := 0
  tickTime := Config.tzero
  ovfCb := none
  captCb := none
  ctxOvf := false
  ctxCapt := false
  refused := false
  label := .none
  trace := []
  params := p

/-- The machine right after reset (R42), with the machine's open parameters. -/
def State.reset : State :=
  State.resetWith Config.params

end Sys2Proof.Machine
end

