-- ==== Sys2Proof/Machine/Operands.lean ====
section
/-! DEFINITION. The operands of the operations (R57): edge kinds as signal levels, prescaler indexes, handle
slots and the capture window. -/

namespace Sys2Proof.Machine

/-- The other edge kind, `1 - e` (R80). -/
def otherEdge : EdgeKind → EdgeKind
  | .rising => .falling
  | .falling => .rising

/-- The level of the input after an edge of kind `k`: `(K = RISING) ? 1 : 0` (R77). -/
def levelAfter : EdgeKind → Bool
  | .rising => true
  | .falling => false

/-- The value of a finite map at `i`, whose legal keys are 1..255 (R6). DESIGN CHOICE (entry 2, safe): the
first pair of the list counts, and a pair with a key outside 1..255 is no entry. -/
def mapAt {α : Type} (m : List (Nat × α)) (i : Nat) : Option α :=
  if 1 ≤ i ∧ i ≤ 255 then (m.find? fun e => e.1 == i).map fun e => e.2 else none

/-- `PRESCALER_SET[P]`: the divisor of a prescaler index, if the index is a key (R57, R94). -/
def divisorOf (pa : Params) (p : Nat) : Option Nat :=
  mapAt pa.prescalerSet p

/-- `HANDLES[H]`: the handle of a slot, if the slot is a key (R57, R98). -/
def handleOf (pa : Params) (h : Nat) : Option Handle :=
  mapAt pa.handles h

/-- The capture window of a CONFIG: W if present, else DEFAULT_WINDOW_S (R56, R94). -/
def windowSeconds (w : Option Time) : Time :=
  w.getD Config.defaultWindowS

end Sys2Proof.Machine
end

