-- ==== Sys2Proof/Machine/Flags.lean ====
section
/-! DEFINITION. What the flags say: the interrupt requests (R39, R105, R106), the running context (R117), the
conditions of the counter and of the race rule (R68, R69), and when each operation is enabled (R103 to R109). -/

namespace Sys2Proof.Machine

/-- `irq_ovf = OVF_PENDING ∧ OVF_IE` (R39, R106). -/
def irqOvf (s : State) : Bool :=
  s.ovfPending && s.ovfIe

/-- `irq_capt = ICF ∧ CAPT_IE` (R39, R105). -/
def irqCapt (s : State) : Bool :=
  s.icf && s.captIe

/-- The execution contexts (R117). -/
inductive Context where
  /-- Both context bits are 0. -/
  | foreground
  /-- Only CTX_OVF is 1. -/
  | overflowCallback
  /-- CTX_CAPT is 1; CTX_OVF tells whether it preempted the overflow callback. -/
  | captureCallback (preemptedOverflow : Bool)
  deriving DecidableEq, Repr

/-- Which context is running, read off the two context bits (R117). -/
def contextOf (s : State) : Context :=
  if s.ctxCapt then .captureCallback s.ctxOvf
  else if s.ctxOvf then .overflowCallback
  else .foreground

/-- The counter stands at M − 1, so that the next TICK wraps it (R69). -/
def counterAtTop (s : State) : Bool :=
  decide (s.tcnt.toNat = s.params.modulus - 1)

/-- The half-modulus test of the race rule: the flag is set and `2 * c < M`, on exact integers (R68, D4). -/
def raceApplies (m : Nat) (c : Ctr) (ovf : Bool) : Bool :=
  ovf && decide (2 * c.toNat < m)

/-- TICK: the counter clock runs (R69, R104). -/
def tickEnabled (s : State) : Bool :=
  s.running

/-- EDGE K: the signal alternates, so the level before the edge is the other one (R77, R104). -/
def edgeEnabled (k : EdgeKind) (s : State) : Bool :=
  s.pin != levelAfter k

/-- EDGE_MISS K: the condition of EDGE, and the kind is the armed one (R78). -/
def edgeMissEnabled (k : EdgeKind) (s : State) : Bool :=
  edgeEnabled k s && decide (k = s.edgeSel)

/-- CAPT_SVC: `irq_capt = 1 ∧ CTX_CAPT = 0` (R80, R105, R108). -/
def captSvcEnabled (s : State) : Bool :=
  irqCapt s && !s.ctxCapt

/-- OVF_SVC: `irq_ovf = 1 ∧ CTX_OVF = 0 ∧ CTX_CAPT = 0 ∧ irq_capt = 0`; the last conjunct is the priority gate
(R71, R106, R132). -/
def ovfSvcEnabled (s : State) : Bool :=
  irqOvf s && !s.ctxOvf && !s.ctxCapt && !irqCapt s

/-- CAPT_CB_RET: `CTX_CAPT = 1` (R82, R109). -/
def captCbRetEnabled (s : State) : Bool :=
  s.ctxCapt

/-- OVF_CB_RET: `CTX_OVF = 1 ∧ CTX_CAPT = 0` (R73, R109). -/
def ovfCbRetEnabled (s : State) : Bool :=
  s.ctxOvf && !s.ctxCapt

/-- Every foreground operation: `CTX_OVF = 0 ∧ CTX_CAPT = 0` (R93, R107). A raised request does not block it. -/
def foregroundEnabled (s : State) : Bool :=
  !s.ctxOvf && !s.ctxCapt

/-- When each operation is enabled (R103). -/
def enabled (i : Instr) (s : State) : Bool :=
  match i with
  | .tick => tickEnabled s
  | .edge k => edgeEnabled k s
  | .edgeMiss k => edgeMissEnabled k s
  | .ovfSvc => ovfSvcEnabled s
  | .captSvc => captSvcEnabled s
  | .ovfCbRet => ovfCbRetEnabled s
  | .captCbRet => captCbRetEnabled s
  | .config _ _ => foregroundEnabled s
  | .start => foregroundEnabled s
  | .stop => foregroundEnabled s
  | .setOvfCb _ => foregroundEnabled s
  | .setCaptCb _ => foregroundEnabled s
  | .getTickTime => foregroundEnabled s
  | .getCaptureWindow => foregroundEnabled s
  | .getDutyAndPeriod => foregroundEnabled s

end Sys2Proof.Machine
end

