-- ==== Sys2Proof/Machine/Ops.lean ====
section
/-! DEFINITION. The operations the meanings share: 64-bit arithmetic (R9), the composition of a timestamp
(R68), the snapshot and its arithmetic (R85 to R90), taking an interrupt into a callback and returning from one
(R114, R115), refusing a record (R111), and fetching the next record of the trace (R16, R56). -/

namespace Sys2Proof.Machine

/-! ### Arithmetic -/

/-- `add64(a, b) = (a + b) mod 2^64` (R9). -/
def add64 (a b : U64) : U64 :=
  a + b

/-- `sub64(a, b) = (a − b) mod 2^64` (R9). -/
def sub64 (a b : U64) : U64 :=
  a - b

/-- `zext_64` of a counter value (R8). -/
def zext64 (c : Ctr) : U64 :=
  c.setWidth 64

/-- M as a 64-bit value, the accumulator increment (R70). -/
def modulus64 (m : Nat) : U64 :=
  BitVec.ofNat 64 m

/-- `compose(acc, c, ovf)`: the extended timestamp of a capture, with the race rule (R68). -/
def compose (m : Nat) (acc : U64) (c : Ctr) (ovf : Bool) : U64 :=
  if raceApplies m c ovf then add64 (add64 acc (zext64 c)) (modulus64 m) else add64 acc (zext64 c)

/-! ### Steps, labels, refusals -/

/-- An operation of agent `a` with enabling condition `g` that leads to the state `t`: where the condition does
not hold the agent has no step (R10, R65, entry 6). -/
def whenEnabled (a : Agent) (g : Bool) (t : State) : Host.Outcome State Fault Refusal :=
  if g then .next t else .fault (.notEnabled a)

/-- `emit L` (R10, R66). -/
def emit (l : Label) (s : State) : State :=
  { s with label := l }

/-- `refuse R`: no block state is written, the sticky mark is set, and the label is `Refused(R)` (R10, R111). -/
def refuse (r : RefuseReason) (s : State) : State :=
  { s with refused := true, label := .refused r }

/-! ### Interrupt contexts -/

/-- The two interrupt levels (R103, R108). -/
inductive IrqLevel where
  | overflow
  | capture
  deriving DecidableEq, Repr

/-- The callback registered for a level (R33). -/
def callbackOf (l : IrqLevel) (s : State) : Option Handle :=
  match l with
  | .overflow => s.ovfCb
  | .capture => s.captCb

/-- Write the context bit of a level (R34). -/
def setContext (l : IrqLevel) (b : Bool) (s : State) : State :=
  match l with
  | .overflow => { s with ctxOvf := b }
  | .capture => { s with ctxCapt := b }

/-- The label that notifies the callback of a level (R66). -/
def notifyLabel (l : IrqLevel) (h : Handle) : Label :=
  match l with
  | .overflow => .notifyOvf h
  | .capture => .notifyCapt h

/-- The end of a service, shared by both levels: with a callback registered, its context is entered and the
callback is notified; without one the service returns at once. Entry saves no other state (R34, R71, R80,
R114). -/
def enterCallback (l : IrqLevel) (s : State) : State :=
  match callbackOf l s with
  | some h => emit (notifyLabel l h) (setContext l true s)
  | none => emit .none s

/-- The return of a callback: its context bit is cleared and nothing else is restored (R73, R82, R115). -/
def returnFromCallback (l : IrqLevel) (s : State) : State :=
  emit .none (setContext l false s)

/-! ### Timestamp storage -/

/-- Store a timestamp by the kind of its edge: a rising one shifts the two rising slots, a falling one
overwrites the falling slot (R75, R80). -/
def storeTimestamp (e : EdgeKind) (ts : U64) (s : State) : State :=
  match e with
  | .rising => { s with prevRise := s.curRise, curRise := ts }
  | .falling => { s with fall := ts }

/-! ### The query -/

/-- The values the query snapshots in one atomic step (R86). -/
structure Snapshot where
  /-- ACC. -/
  acc : U64
  /-- CUR_RISE. -/
  curRise : U64
  /-- PREV_RISE. -/
  prevRise : U64
  /-- FALL. -/
  fall : U64
  /-- TCNT. -/
  tcnt : Ctr
  deriving DecidableEq, Repr

/-- Take the snapshot; OVF_PENDING is not read (R86, R91). -/
def takeSnapshot (s : State) : Snapshot where
  acc := s.acc
  curRise := s.curRise
  prevRise := s.prevRise
  fall := s.fall
  tcnt := s.tcnt

/-- `age = sub64(add64(ACC, TCNT), CUR_RISE)`, with no race correction (R87, R91). -/
def ageOf (n : Snapshot) : U64 :=
  sub64 (add64 n.acc (zext64 n.tcnt)) n.curRise

/-- Stale: `age > WINDOW_TICKS`, a strict unsigned comparison (R87). -/
def isStale (n : Snapshot) (windowTicks : U64) : Bool :=
  decide (windowTicks < ageOf n)

/-- `duty_ticks`, by the unsigned comparison of FALL with CUR_RISE (R88). -/
def dutyTicks (n : Snapshot) : U64 :=
  if n.curRise ≤ n.fall then sub64 n.fall n.curRise else sub64 n.fall n.prevRise

/-- `period_ticks = sub64(CUR_RISE, PREV_RISE)` (R89). -/
def periodTicks (n : Snapshot) : U64 :=
  sub64 n.curRise n.prevRise

/-- Ticks to time: a count of 0 gives exactly `tzero`, whatever `tmul` would return (R90). -/
def ticksToTime (ticks : U64) (tickTime : Time) : Time :=
  if ticks = 0 then Config.tzero else Config.tmul ticks tickTime

/-- The output that means "no valid measurement" (R84, R87). -/
def noMeasurement : Label :=
  .dutyPeriod 0 Config.tzero 0 Config.tzero

/-- The query's output on a snapshot (R85). -/
def queryLabel (n : Snapshot) (windowTicks : U64) (tickTime : Time) : Label :=
  if isStale n windowTicks then noMeasurement
  else .dutyPeriod (dutyTicks n) (ticksToTime (dutyTicks n) tickTime)
    (periodTicks n) (ticksToTime (periodTicks n) tickTime)

/-! ### Configuration -/

/-- Write RUNNING, OVF_IE and CAPT_IE together (R96, R97). -/
def setEnables (b : Bool) (s : State) : State :=
  { s with running := b, ovfIe := b, captIe := b }

/-- CONFIG is refused while the counter runs or an interrupt source is enabled (R94). -/
def configBusy (s : State) : Bool :=
  s.running || s.ovfIe || s.captIe

/-- What CONFIG with a prescaler index of divisor `d` writes (R94). -/
def selectClock (p d : Nat) (seconds : Time) (s : State) : State :=
  { s with
    clkSel := BitVec.ofNat 8 p
    tickTime := Config.tickTimeOf s.params.fClk d
    windowTicks := Config.secondsToTicks seconds (Config.tickTimeOf s.params.fClk d) }

/-- Write the callback register of a level (R33). -/
def setCallback (l : IrqLevel) (h : Handle) (s : State) : State :=
  match l with
  | .overflow => { s with ovfCb := some h }
  | .capture => { s with captCb := some h }

/-- Register the callback of slot `h` for a level: NULL is a no-op, a slot that is no key is refused (R98,
R99). -/
def registerCallback (l : IrqLevel) (h : Nat) (s : State) : State :=
  if h = 0 then emit .none s
  else
    match handleOf s.params h with
    | some handle => emit .none (setCallback l handle s)
    | none => refuse .badHandleSlot s

/-! ### The trace -/

/-- The next record of the trace and the state in which the rest of the trace is left (R16, R56). -/
def fetchRecord (s : State) : Option (OpRecord × State) :=
  match s.trace with
  | [] => none
  | r :: rest => some (r, { s with trace := rest })

/-- Put a record at the head of the trace. -/
def pushRecord (r : OpRecord) (s : State) : State :=
  { s with trace := r :: s.trace }

end Sys2Proof.Machine
end

