-- ==== Sys2Proof/Machine/Capture.lean ====
section
/-! DEFINITION. Edge capture and timestamp storage (41_edge_capture.md): EDGE, EDGE_MISS, CAPT_SVC,
CAPT_CB_RET. -/

namespace Sys2Proof.Machine

/-- The input takes the level of an edge (R77, R78). -/
def movePin (k : EdgeKind) (s : State) : State :=
  { s with pin := levelAfter k }

/-- The capture unit latches the counter and raises its flag (R77). -/
def latchCapture (s : State) : State :=
  { s with icr := s.tcnt, icf := true }

/-- EDGE K: an edge of the armed kind is captured, one of the other kind changes only the level (R76, R77). -/
def execEdge (k : EdgeKind) (s : State) : Host.Outcome State Fault Refusal :=
  whenEnabled .environment (edgeEnabled k s)
    (emit .none (if k = s.edgeSel then latchCapture (movePin k s) else movePin k s))

/-- EDGE_MISS K: an armed edge that the capture unit fails to record (R78). -/
def execEdgeMiss (k : EdgeKind) (s : State) : Host.Outcome State Fault Refusal :=
  whenEnabled .environment (edgeMissEnabled k s) (emit .none (movePin k s))

/-- Toggle the edge-direction indicator and clear the capture flag (R80, R81). -/
def rearmCapture (s : State) : State :=
  { s with edgeSel := otherEdge s.edgeSel, icf := false }

/-- The timestamp the capture service stores: `compose(ACC, ICR, OVF_PENDING)` (R80). -/
def captureTimestamp (s : State) : U64 :=
  compose s.params.modulus s.acc s.icr s.ovfPending

/-- CAPT_SVC: the edge is classified by EDGE_SEL in the pre-state, the indicator is toggled, the flag cleared,
the timestamp composed and stored, and then the callback notified (R79, R80, R81). -/
def execCaptSvc (s : State) : Host.Outcome State Fault Refusal :=
  whenEnabled .captureLevel (captSvcEnabled s)
    (enterCallback .capture (storeTimestamp s.edgeSel (captureTimestamp s) (rearmCapture s)))

/-- CAPT_CB_RET (R82). -/
def execCaptCbRet (s : State) : Host.Outcome State Fault Refusal :=
  whenEnabled .captureCallback (captCbRetEnabled s) (returnFromCallback .capture s)

end Sys2Proof.Machine
end

