-- ==== Sys2Proof/Machine/Configure.lean ====
section
/-! DEFINITION. Configuration, control and callback registration (43_configuration.md): CONFIG, START, STOP,
SET_OVF_CB, SET_CAPT_CB, GET_TICK_TIME, GET_CAPTURE_WINDOW. -/

namespace Sys2Proof.Machine

/-- What an enabled CONFIG does, its checks in the order of R94: ConfigWhileRunning, then BadPrescaler. With
NO_CLOCK only CLK_SEL is written (R95). -/
def configure (p : Nat) (w : Option Time) (s : State) : State :=
  if configBusy s then refuse .configWhileRunning s
  else if p = 0 then emit .none { s with clkSel := 0 }
  else
    match divisorOf s.params p with
    | some d => emit .none (selectClock p d (windowSeconds w) s)
    | none => refuse .badPrescaler s

/-- CONFIG P [, W] (R94, R95). -/
def execConfig (p : Nat) (w : Option Time) (s : State) : Host.Outcome State Fault Refusal :=
  whenEnabled .foreground (foregroundEnabled s) (configure p w s)

/-- START: a no-op with NO_CLOCK selected, else the counter and both interrupt sources go on; no flag is
cleared (R96, R135). -/
def execStart (s : State) : Host.Outcome State Fault Refusal :=
  whenEnabled .foreground (foregroundEnabled s)
    (emit .none (if s.clkSel = 0 then s else setEnables true s))

/-- STOP: the counter and both interrupt sources go off; pending flags are kept (R97). -/
def execStop (s : State) : Host.Outcome State Fault Refusal :=
  whenEnabled .foreground (foregroundEnabled s) (emit .none (setEnables false s))

/-- SET_OVF_CB H (R98). -/
def execSetOvfCb (h : Nat) (s : State) : Host.Outcome State Fault Refusal :=
  whenEnabled .foreground (foregroundEnabled s) (registerCallback .overflow h s)

/-- SET_CAPT_CB H (R99). -/
def execSetCaptCb (h : Nat) (s : State) : Host.Outcome State Fault Refusal :=
  whenEnabled .foreground (foregroundEnabled s) (registerCallback .capture h s)

/-- GET_TICK_TIME (R100). -/
def execGetTickTime (s : State) : Host.Outcome State Fault Refusal :=
  whenEnabled .foreground (foregroundEnabled s) (emit (.tickTime s.tickTime) s)

/-- GET_CAPTURE_WINDOW: the window converted back from ticks, with no exact-zero rule (R101). -/
def execGetCaptureWindow (s : State) : Host.Outcome State Fault Refusal :=
  whenEnabled .foreground (foregroundEnabled s)
    (emit (.window (Config.tmul s.windowTicks s.tickTime)) s)

end Sys2Proof.Machine
end

