-- ==== Sys2Proof/Machine/Engine.lean ====
section
/-! DEFINITION. The Timestamp Extension Engine (40_timestamp_engine.md): TICK, OVF_SVC, OVF_CB_RET. -/

namespace Sys2Proof.Machine

/-- What a TICK does to the counter and its flag: at M − 1 the counter wraps to 0 and the flag is set on the
same step, else the counter advances by one (past M − 1, which no run reaches, modulo 2^16: entry 11). A wrap
with the flag already set leaves it set (R69, R126). -/
def advanceCounter (s : State) : State :=
  if counterAtTop s then { s with tcnt := 0, ovfPending := true }
  else { s with tcnt := s.tcnt + 1 }

/-- TICK (R69). -/
def execTick (s : State) : Host.Outcome State Fault Refusal :=
  whenEnabled .environment (tickEnabled s) (emit .none (advanceCounter s))

/-- What the overflow service does before its callback: the flag is cleared and M is added to ACC in one step
(R71, D12). -/
def serviceOverflow (s : State) : State :=
  { s with ovfPending := false, acc := add64 s.acc (modulus64 s.params.modulus) }

/-- OVF_SVC (R71). -/
def execOvfSvc (s : State) : Host.Outcome State Fault Refusal :=
  whenEnabled .overflowLevel (ovfSvcEnabled s) (enterCallback .overflow (serviceOverflow s))

/-- OVF_CB_RET (R73). -/
def execOvfCbRet (s : State) : Host.Outcome State Fault Refusal :=
  whenEnabled .overflowCallback (ovfCbRetEnabled s) (returnFromCallback .overflow s)

end Sys2Proof.Machine
end

