-- ==== Sys2Proof/Machine/Query.lean ====
section
/-! DEFINITION. The Duty/Period Calculator (42_duty_period.md): GET_DUTY_AND_PERIOD. -/

namespace Sys2Proof.Machine

/-- GET_DUTY_AND_PERIOD: the snapshot and the arithmetic on it in one step, which writes no block state (R85,
R86, R92). -/
def execGetDutyAndPeriod (s : State) : Host.Outcome State Fault Refusal :=
  whenEnabled .foreground (foregroundEnabled s)
    (emit (queryLabel (takeSnapshot s) s.windowTicks s.tickTime) s)

end Sys2Proof.Machine
end

