-- ==== Sys2Proof/Machine/Dispatch.lean ====
section
/-! DEFINITION. The meaning of every operation of the opcode map (R59). -/

namespace Sys2Proof.Machine

def exec (i : Instr) (s : State) : Host.Outcome State Fault Refusal :=
  match i with
  -- the environment
  | .tick => Sys2Proof.Machine.execTick s
  | .edge k => Sys2Proof.Machine.execEdge k s
  | .edgeMiss k => Sys2Proof.Machine.execEdgeMiss k s
  -- the interrupt path
  | .ovfSvc => Sys2Proof.Machine.execOvfSvc s
  | .captSvc => Sys2Proof.Machine.execCaptSvc s
  | .ovfCbRet => Sys2Proof.Machine.execOvfCbRet s
  | .captCbRet => Sys2Proof.Machine.execCaptCbRet s
  -- the foreground
  | .config p w => Sys2Proof.Machine.execConfig p w s
  | .start => Sys2Proof.Machine.execStart s
  | .stop => Sys2Proof.Machine.execStop s
  | .setOvfCb h => Sys2Proof.Machine.execSetOvfCb h s
  | .setCaptCb h => Sys2Proof.Machine.execSetCaptCb h s
  | .getTickTime => Sys2Proof.Machine.execGetTickTime s
  | .getCaptureWindow => Sys2Proof.Machine.execGetCaptureWindow s
  | .getDutyAndPeriod => Sys2Proof.Machine.execGetDutyAndPeriod s

end Sys2Proof.Machine
end

