-- ==== Sys2Proof/Machine/Step.lean ====
section
/-! DEFINITION. One step of the machine: the record at the head of the trace is fetched, decoded, and refused or
executed (R16, R56, R60, R113). -/

namespace Sys2Proof.Machine

/-- One step. Decoding comes first (R113, entry 10): a record it refuses sets the sticky mark and changes no other state
(R60, R111). An empty trace ends the run (R137). -/
def step (s : State) : Host.Outcome State Fault Refusal :=
  match fetchRecord s with
  | none => .fault .traceEnded
  | some (r, s') =>
    match decode r with
    | .ok i => exec i s'
    | .error e => .next (refuse e s')

/-- The state with the instruction of a table word as the next record of its trace, so that the next step runs
it (entry 16). A loaded trace stands for a program (R16, entry 7). -/
def State.withFetchWord (s : State) (nbits w : Nat) : State :=
  pushRecord { word := tableWord nbits w, window := none } s

end Sys2Proof.Machine
end

