-- ==== Sys2Proof/Machine/Assembly.lean ====
section
/-! DEFINITION. The trace assembly text (R63) and its pseudo-operations (R64), down to operation records. -/

namespace Sys2Proof.Machine

/-- A line of assembly: an operation, or a pseudo-operation of R64. -/
inductive AsmLine where
  /-- An operation (R63). -/
  | op (i : Instr)
  /-- `TICKS n` (R64). -/
  | ticks (n : Nat)
  /-- `RISE` (R64). -/
  | rise
  /-- `FALL` (R64). -/
  | fall
  deriving DecidableEq, Repr

/-- The operations a line stands for (R64). -/
def AsmLine.expand : AsmLine → List Instr
  | .op i => [i]
  | .ticks n => List.replicate n .tick
  | .rise => [.edge .rising]
  | .fall => [.edge .falling]

/-- The records of a program text (R56, R64): each line expanded, then encoded. Of an ill-formed operation, which
no text gives, the encoder keeps the low 8 bits of its operand (entry 20). -/
def assemble (ls : List AsmLine) : List OpRecord :=
  (ls.flatMap AsmLine.expand).map encode

/-- A finished token: `acc` holds its characters, last first. -/
def flushToken (acc : List Char) : List (List Char) :=
  if acc.isEmpty then [] else [acc.reverse]

/-- The tokens of a line, in capitals (mnemonics are case-insensitive, R63). Blanks separate, a comma is a token
of its own, and a semicolon starts a comment. DESIGN CHOICE (entry 17, safe): R63 shows the layout by example
only. -/
def lexLine : List Char → List Char → List (List Char)
  | [], acc => flushToken acc
  | c :: cs, acc =>
    if c = ';' then flushToken acc
    else if c = ' ' ∨ c = '\t' then flushToken acc ++ lexLine cs []
    else if c = ',' then flushToken acc ++ [','] :: lexLine cs []
    else lexLine cs (c.toUpper :: acc)

/-- The number of a token of decimal digits. -/
def numberOf (t : List Char) : Option Nat :=
  if !t.isEmpty && t.all Char.isDigit then
    some (t.foldl (fun n c => 10 * n + (c.toNat - '0'.toNat)) 0)
  else none

/-- The index or slot of a token: a number that fits the argument byte. DESIGN CHOICE (entry 20, safe): R63 does
not say what a line with a larger one gives; here it is not read. -/
def byteOf (t : List Char) : Option Nat :=
  (numberOf t).filter fun n => decide (n < 256)

/-- The seconds of a token, digits with at most one point (R63, entry 17). -/
def secondsOf (t : List Char) : Option Rat :=
  match t.dropWhile (· != '.') with
  | [] => (numberOf t).map fun n => (n : Rat)
  | _ :: fraction => do
    let whole ← numberOf (t.takeWhile (· != '.'))
    let part ← numberOf fraction
    some (mkRat (whole * 10 ^ fraction.length + part) (10 ^ fraction.length))

/-- The edge kind a token names (R63). -/
def edgeNamed (t : List Char) : Option EdgeKind :=
  if t = "RISING".toList then some .rising
  else if t = "FALLING".toList then some .falling
  else none

/-- The lines that are one word (R63, R64). -/
def plainLines : List (String × AsmLine) :=
  [("TICK", .op .tick), ("OVF_SVC", .op .ovfSvc), ("CAPT_SVC", .op .captSvc), ("OVF_CB_RET", .op .ovfCbRet),
    ("CAPT_CB_RET", .op .captCbRet), ("START", .op .start), ("STOP", .op .stop),
    ("GET_TICK_TIME", .op .getTickTime), ("GET_CAPTURE_WINDOW", .op .getCaptureWindow),
    ("GET_DUTY_AND_PERIOD", .op .getDutyAndPeriod), ("RISE", .rise), ("FALL", .fall)]

/-- The line of a word and one operand (R63, R64; an index or slot above 255 is no operand, entry 20). -/
def lineWithOperand (m t : List Char) : Option AsmLine :=
  if m = "EDGE".toList then (edgeNamed t).map fun k => .op (.edge k)
  else if m = "EDGE_MISS".toList then (edgeNamed t).map fun k => .op (.edgeMiss k)
  else if m = "CONFIG".toList then (byteOf t).map fun p => .op (.config p none)
  else if m = "SET_OVF_CB".toList then (byteOf t).map fun h => .op (.setOvfCb h)
  else if m = "SET_CAPT_CB".toList then (byteOf t).map fun h => .op (.setCaptCb h)
  else if m = "TICKS".toList then (numberOf t).map .ticks
  else none

/-- The line of a list of tokens (R63, R64). -/
def lineOfTokens : List (List Char) → Option AsmLine
  | [m] => (plainLines.find? fun e => decide (e.1.toList = m)).map fun e => e.2
  | [m, t] => lineWithOperand m t
  | [m, p, c, w] =>
    if m = "CONFIG".toList ∧ c = [','] then do
      let index ← byteOf p
      let seconds ← secondsOf w
      some (.op (.config index (some (Config.timeOfSeconds seconds))))
    else none
  | _ => none

/-- Read one line of text: a blank or comment line gives no assembly line, and a line of no known form is not
read at all. -/
def parseLine (text : String) : Option (List AsmLine) :=
  match lexLine text.toList [] with
  | [] => some []
  | t :: ts => (lineOfTokens (t :: ts)).map fun l => [l]

end Sys2Proof.Machine
end

