-- ==== Sys2Proof/Safety.lean ====
section
/-! DEFINITION. What claims about the block are stated in: the invariant of every state (R37, R43), a complete
run (R137), runs from reset with the history that the latency premise counts (R127), the invariants of a state
with its history (R70, R79, R124, R127), and fair infinite runs (R116). -/

namespace Sys2Proof.Machine

/-! ### One state -/

/-- No record was refused: the premise of every claim (R35, R111). -/
def Safe (s : State) : Prop :=
  s.refused = false

/-- A service is enabled. -/
def serviceEnabled (s : State) : Bool :=
  captSvcEnabled s || ovfSvcEnabled s

/-- The state at the end of a complete run (R137). -/
def runComplete (s : State) : Bool :=
  !s.refused && !s.ctxOvf && !s.ctxCapt && !serviceEnabled s

/-- The invariant of every state a run reaches: the ranges of R43, the legal values of R37, the enables that
START and STOP move together (R96, R97), and a context only while a callback is registered (R34). -/
structure Inv (s : State) : Prop where
  /-- `TCNT < M` (R43). -/
  tcnt_lt : s.tcnt.toNat < s.params.modulus
  /-- `ICR < M` (R43). -/
  icr_lt : s.icr.toNat < s.params.modulus
  /-- OVF_IE goes with RUNNING. -/
  ovfIe_eq : s.ovfIe = s.running
  /-- CAPT_IE goes with RUNNING. -/
  captIe_eq : s.captIe = s.running
  /-- CLK_SEL is 0 or an index in PRESCALER_SET (R37). -/
  clkSel_legal : s.clkSel = 0 ∨ (divisorOf s.params s.clkSel.toNat).isSome = true
  /-- The counter runs only with a clock selected (R94, R96). -/
  running_clock : s.running = true → s.clkSel ≠ 0
  /-- TICK_TIME is `tzero` or the tick time of a divisor in PRESCALER_SET (R37). -/
  tickTime_legal : s.tickTime = Config.tzero ∨
    ∃ p d, divisorOf s.params p = some d ∧ s.tickTime = Config.tickTimeOf s.params.fClk d
  /-- OVF_CB is NULL or a handle in HANDLES (R37). -/
  ovfCb_legal : ∀ h, s.ovfCb = some h → ∃ n, handleOf s.params n = some h
  /-- CAPT_CB is NULL or a handle in HANDLES (R37). -/
  captCb_legal : ∀ h, s.captCb = some h → ∃ n, handleOf s.params n = some h
  /-- The overflow context is entered only with a callback, which cannot be removed (R34, R98). -/
  ctxOvf_registered : s.ctxOvf = true → s.ovfCb ≠ none
  /-- The capture context is entered only with a callback, which cannot be removed (R34, R99). -/
  ctxCapt_registered : s.ctxCapt = true → s.captCb ≠ none

/-- The operation has a step in this state; where it has none, its agent waits (R10). -/
def HasStep (i : Instr) (s : State) : Prop :=
  ∃ t, exec i s = .next t

/-- Operations taken one after another, up to the first that has no step. -/
def execAll : List Instr → State → Host.Outcome State Fault Refusal
  | [], s => .next s
  | i :: is, s =>
    match exec i s with
    | .next t => execAll is t
    | .fault f => .fault f
    | .refused r => .refused r

/-! ### Runs with their history -/

/-- The reset state with a trace loaded (R42, R122, entry 7). -/
def boot (p : Params) (tr : List OpRecord) : State :=
  { State.resetWith p with trace := tr }

/-- The operation the next step takes, if the next record decodes. -/
def nextInstr (s : State) : Option Instr :=
  match s.trace with
  | [] => none
  | r :: _ =>
    match decode r with
    | .ok i => some i
    | .error _ => none

/-- What the claims of R70 and R127 count along a run. It is no state of the block. -/
structure History where
  /-- TICK steps that wrapped the counter. -/
  wraps : Nat
  /-- OVF_SVC steps. -/
  services : Nat
  /-- TICK steps since the TICK that set OVF_PENDING (P_OVF of R127, entry 18). -/
  sinceFlag : Nat
  /-- TICK steps since the EDGE step that last wrote ICR (P_CAPT of R127). -/
  sinceLatch : Nat
  /-- W_e of R127: wrapping TICKs before the EDGE step that last wrote ICR. -/
  wrapsAtLatch : Nat
  /-- The kind of the EDGE step that last wrote ICR (R79). -/
  latchedKind : EdgeKind
  deriving DecidableEq, Repr

/-- The history at reset. -/
def History.start : History where
  wraps := 0
  services := 0
  sinceFlag := 0
  sinceLatch := 0
  wrapsAtLatch := 0
  latchedKind := .rising

/-- The history after a TICK in state `s`. -/
def History.tick (s : State) (h : History) : History where
  wraps := if counterAtTop s then h.wraps + 1 else h.wraps
  services := h.services
  sinceFlag := if counterAtTop s && !s.ovfPending then 0 else h.sinceFlag + 1
  sinceLatch := h.sinceLatch + 1
  wrapsAtLatch := h.wrapsAtLatch
  latchedKind := h.latchedKind

/-- The history after an EDGE of kind `k` in state `s`. -/
def History.edge (k : EdgeKind) (s : State) (h : History) : History :=
  if k = s.edgeSel then { h with sinceLatch := 0, wrapsAtLatch := h.wraps, latchedKind := k } else h

/-- The history after the operation `i` was taken in state `s`. -/
def History.take (i : Instr) (s : State) (h : History) : History :=
  match i with
  | .tick => h.tick s
  | .edge k => h.edge k s
  | .ovfSvc => { h with services := h.services + 1 }
  | .edgeMiss _ => h
  | .captSvc => h
  | .ovfCbRet => h
  | .captCbRet => h
  | .config _ _ => h
  | .start => h
  | .stop => h
  | .setOvfCb _ => h
  | .setCaptCb _ => h
  | .getTickTime => h
  | .getCaptureWindow => h
  | .getDutyAndPeriod => h

/-- The history after a step from `s` that was taken. -/
def History.after (s : State) (h : History) : History :=
  match nextInstr s with
  | some i => h.take i s
  | none => h

/-- A run from `s₀`, with its history. -/
inductive Run (s₀ : State) : State → History → Prop where
  | start : Run s₀ s₀ .start
  | more {s t : State} {h : History} (run : Run s₀ s h) (hstep : step s = .next t) : Run s₀ t (h.after s)

/-- P_OVF of R127 in one state: while the flag is set, `2 * n < M`. -/
abbrev POvf (s : State) (h : History) : Prop :=
  s.ovfPending = true → 2 * h.sinceFlag < s.params.modulus

/-- P_CAPT of R127 at one step: if it is a CAPT_SVC step, `2 * L < M`. -/
abbrev PCapt (s : State) (h : History) : Prop :=
  nextInstr s = some .captSvc → 2 * h.sinceLatch < s.params.modulus

/-- A run that satisfies LAT (R127). -/
inductive LatRun (s₀ : State) : State → History → Prop where
  | start : LatRun s₀ s₀ .start
  | more {s t : State} {h : History} (run : LatRun s₀ s h) (hstep : step s = .next t) (hcapt : PCapt s h)
      (hovf : POvf t (h.after s)) : LatRun s₀ t (h.after s)

/-! ### Invariants of a state with its history -/

/-- What every state of a run keeps with its history: the accumulator counts the services (R70), no service is
without its wrap (R126), and a pending capture is of the kind EDGE_SEL names (R79). -/
structure HistoryInv (s : State) (h : History) : Prop where
  /-- `ACC = (k · M) mod 2^64` after `k` services (R70). -/
  acc_eq : s.acc.toNat = h.services * s.params.modulus % 2 ^ 64
  /-- Each service, and a pending flag, has a wrap of its own (R126). -/
  services_le : h.services + s.ovfPending.toNat ≤ h.wraps
  /-- While a capture is pending, EDGE_SEL is the kind of its edge (R79). -/
  latched : s.icf = true → s.edgeSel = h.latchedKind

/-- The extended counter value at the EDGE step that last wrote ICR, `M · W_e + c` (R127), as an exact number. -/
def extendedAtLatch (s : State) (h : History) : Nat :=
  s.params.modulus * h.wrapsAtLatch + s.icr.toNat

/-- The extended counter value now, as an exact number. -/
def extendedNow (s : State) (h : History) : Nat :=
  s.params.modulus * h.wraps + s.tcnt.toNat

/-- No timestamp stored from here on is below this value: that of the pending capture, or the counter's own. -/
def timestampBound (s : State) (h : History) : Nat :=
  if s.icf then extendedAtLatch s h else extendedNow s h

/-- What every state of a run that satisfies LAT keeps with its history (the argument of R127, entry 18). -/
structure LatInv (s : State) (h : History) : Prop where
  /-- The invariant of every state. -/
  inv : Inv s
  /-- The invariant of every run. -/
  history : HistoryInv s h
  /-- No wrap is lost: `OVF_PENDING = W − S`. -/
  no_lost_wrap : h.services + s.ovfPending.toNat = h.wraps
  /-- While the flag is set the counter shows the ticks since its wrap. -/
  since_flag : s.ovfPending = true → h.sinceFlag = s.tcnt.toNat
  /-- P_OVF. -/
  p_ovf : POvf s h
  /-- A pending capture lies as many ticks back as were counted. -/
  since_latch : s.icf = true → extendedAtLatch s h + h.sinceLatch = extendedNow s h
  /-- At its service, ACC holds all wraps before a pending capture, or all but the one still pending. -/
  acc_at_latch : s.icf = true → h.services = h.wrapsAtLatch ∨
    (h.services + 1 = h.wrapsAtLatch ∧ h.wraps = h.wrapsAtLatch ∧ s.ovfPending = true)
  /-- Before the 64-bit wrap, the current rising timestamp is within the bound of the next one. -/
  curRise_le : s.params.modulus * (h.wraps + 1) ≤ 2 ^ 64 → s.curRise.toNat ≤ timestampBound s h
  /-- So is the falling one. -/
  fall_le : s.params.modulus * (h.wraps + 1) ≤ 2 ^ 64 → s.fall.toNat ≤ timestampBound s h
  /-- The rising slots are in order (R21). -/
  rises_ordered : s.params.modulus * (h.wraps + 1) ≤ 2 ^ 64 → s.prevRise.toNat ≤ s.curRise.toNat

/-- What holds from reset until START (R124). -/
structure BeforeStart (s : State) : Prop where
  acc : s.acc = 0
  curRise : s.curRise = 0
  prevRise : s.prevRise = 0
  fall : s.fall = 0
  tcnt : s.tcnt = 0
  icr : s.icr = 0
  running : s.running = false
  ovfIe : s.ovfIe = false
  captIe : s.captIe = false
  ctxOvf : s.ctxOvf = false
  ctxCapt : s.ctxCapt = false

/-! ### Infinite runs and fairness -/

/-- An infinite run: at each point the operation named is taken (R103). -/
def InfiniteRun (st : Nat → State) (op : Nat → Instr) : Prop :=
  ∀ n, exec (op n) (st n) = .next (st (n + 1))

/-- Weak fairness for one operation: if it is enabled from some point on, it is taken after that point
(R116). -/
def WeaklyFair (st : Nat → State) (op : Nat → Instr) (i : Instr) : Prop :=
  ∀ n, (∀ m, n ≤ m → enabled i (st m) = true) → ∃ m, n ≤ m ∧ op m = i

/-- The four kinds of step that are weakly fair (R116). -/
def FairRun (st : Nat → State) (op : Nat → Instr) : Prop :=
  InfiniteRun st op ∧ WeaklyFair st op .captSvc ∧ WeaklyFair st op .ovfSvc ∧
    WeaklyFair st op .captCbRet ∧ WeaklyFair st op .ovfCbRet

end Sys2Proof.Machine
end

