-- ==== Sys2Proof/Certificates/Slice0/Obligations.lean ====
section
/-! DEFINITION. The statements about the model: what each operation does and when it has a step, what the machine
as a whole keeps, and the claims over runs from reset. Each docstring names the rule of spec/ it formalises. -/

open Sys2Proof Sys2Proof.Machine

/-! ### Steps and records -/

/-- A step runs the operation that the record at the head of the trace decodes to, with the record taken off the
trace. The trace is the model's form of R16 and R56 (entry 7). -/
def Obligations.StepRunsDecodedOperation : Prop :=
  ∀ (s : State) (r : OpRecord) (rest : List OpRecord) (i : Instr),
    s.trace = r :: rest → decode r = .ok i → step s = exec i { s with trace := rest }

/-- A record that decoding refuses is a step that sets REFUSED and the label and changes nothing else of the
block (R60, R111; that it is a next state is entry 9). -/
def Obligations.StepRefusesUndecodedRecord : Prop :=
  ∀ (s : State) (r : OpRecord) (rest : List OpRecord) (e : RefuseReason),
    s.trace = r :: rest → decode r = .error e →
      step s = .next { s with trace := rest, refused := true, label := .refused e }

/-- A run ends where its trace ends (R137): the model's step then answers the fault `traceEnded` (entry 7). -/
def Obligations.StepStopsWhereTraceEnds : Prop :=
  ∀ s : State, s.trace = [] → step s = .fault .traceEnded

/-! ### Encoding -/

/-- The reserved words of R61, by the number of the word: opcode `word / 256`, argument `word % 256`. -/
def Obligations.ReservedWordsAreRefused : Prop :=
  ∀ r : OpRecord,
    ((r.word.toNat / 256 = 0x00 ∨ (0x04 ≤ r.word.toNat / 256 ∧ r.word.toNat / 256 ≤ 0x0F) ∨
        (0x14 ≤ r.word.toNat / 256 ∧ r.word.toNat / 256 ≤ 0x1F) ∨ 0x28 ≤ r.word.toNat / 256) →
      decode r = .error .reservedOpcode) ∧
    (r.word.toNat / 256 ∈ [0x01, 0x10, 0x11, 0x12, 0x13, 0x21, 0x22, 0x25, 0x26, 0x27] →
      r.word.toNat % 256 ≠ 0 → decode r = .error .reservedArg) ∧
    (r.word.toNat / 256 ∈ [0x02, 0x03] → 2 ≤ r.word.toNat % 256 → decode r = .error .reservedArg) ∧
    (r.word.toNat / 256 ∈ [0x01, 0x02, 0x03, 0x10, 0x11, 0x12, 0x13, 0x21, 0x22, 0x23, 0x24, 0x25, 0x26, 0x27] →
      r.window ≠ none → decode r = .error .reservedArg)

/-- Decoding the record of a well-formed instruction gives the instruction back, with every operand (R55, R57,
R60). -/
def Obligations.DecodeOfEncode : Prop :=
  ∀ i : Instr, i.WellFormed → decode (encode i) = .ok i

/-- A record that decodes is the record of the instruction it decodes to, so no two records stand for one
instruction and no accepted bit is dropped (R60). -/
def Obligations.EncodeOfDecode : Prop :=
  ∀ (r : OpRecord) (i : Instr), decode r = .ok i → i.WellFormed ∧ encode i = r

/-- Words written out from the formats of R55 and the map of R59, among them the examples of R63. -/
def Obligations.WrittenWordsDecode : Prop :=
  decode ⟨0x0100, none⟩ = .ok .tick ∧
  decode ⟨0x0201, none⟩ = .ok (.edge .rising) ∧
  decode ⟨0x0200, none⟩ = .ok (.edge .falling) ∧
  decode ⟨0x0301, none⟩ = .ok (.edgeMiss .rising) ∧
  decode ⟨0x1000, none⟩ = .ok .ovfSvc ∧
  decode ⟨0x1100, none⟩ = .ok .captSvc ∧
  decode ⟨0x2401, none⟩ = .ok (.setCaptCb 1) ∧
  decode ⟨0x2700, none⟩ = .ok .getDutyAndPeriod ∧
  ∀ w : Time, decode ⟨0x2003, some w⟩ = .ok (.config 3 (some w))

/-- The opcode map (R59): the high byte of each operation's word, and its upper half names the issuing agent. -/
def Obligations.OpcodeMapNamesAgent : Prop :=
  ∀ i : Instr,
    (encode i).word.toNat / 256 =
      (match i with
        | .tick => 0x01 | .edge _ => 0x02 | .edgeMiss _ => 0x03
        | .ovfSvc => 0x10 | .captSvc => 0x11 | .ovfCbRet => 0x12 | .captCbRet => 0x13
        | .config _ _ => 0x20 | .start => 0x21 | .stop => 0x22 | .setOvfCb _ => 0x23 | .setCaptCb _ => 0x24
        | .getTickTime => 0x25 | .getCaptureWindow => 0x26 | .getDutyAndPeriod => 0x27) ∧
    ((encode i).word.toNat / 4096 = 0 ↔ i.agent = .environment) ∧
    ((encode i).word.toNat / 4096 = 1 ↔
      i.agent ∈ [.overflowLevel, .captureLevel, .overflowCallback, .captureCallback]) ∧
    ((encode i).word.toNat / 4096 = 2 ↔ i.agent = .foreground)

/-- The pseudo-operations expand before decoding, and CONFIG without W is the real CONFIG (R64). -/
def Obligations.PseudoOperationsExpand : Prop :=
  (∀ n : Nat, assemble [.ticks n] = List.replicate n ⟨0x0100, none⟩) ∧
  assemble [.rise] = [⟨0x0201, none⟩] ∧
  assemble [.fall] = [⟨0x0200, none⟩] ∧
  (∀ p : Nat, p < 256 → assemble [.op (.config p none)] = [⟨BitVec.ofNat 16 (0x2000 + p), none⟩]) ∧
  parseLine "CONFIG 3" = some [.op (.config 3 none)]

/-! ### The environment -/

/-- TICK (R69). What `TCNT + 1` is past 2^16 − 1, in a state that no run reaches, is the model's choice
(entry 11). -/
def Obligations.TickAdvancesOrWraps : Prop :=
  ∀ s : State,
    encode .tick = ⟨0x0100, none⟩ ∧
    (s.running = true → exec .tick s = .next
      (if s.tcnt.toNat = s.params.modulus - 1 then { s with tcnt := 0, ovfPending := true, label := .none }
        else { s with tcnt := s.tcnt + 1, label := .none })) ∧
    (s.running = false → ¬ HasStep .tick s)

/-- EDGE K (R77). -/
def Obligations.EdgeLatchesArmedKind : Prop :=
  ∀ (s : State) (k : EdgeKind),
    encode (.edge k) = ⟨if k = .rising then 0x0201 else 0x0200, none⟩ ∧
    (((k = .rising ∧ s.pin = false) ∨ (k = .falling ∧ s.pin = true)) → exec (.edge k) s = .next
      (if k = s.edgeSel then
        { s with pin := decide (k = .rising), icr := s.tcnt, icf := true, label := .none }
       else { s with pin := decide (k = .rising), label := .none })) ∧
    (¬ ((k = .rising ∧ s.pin = false) ∨ (k = .falling ∧ s.pin = true)) → ¬ HasStep (.edge k) s)

/-- EDGE_MISS K (R78). -/
def Obligations.EdgeMissMovesOnlyThePin : Prop :=
  ∀ (s : State) (k : EdgeKind),
    encode (.edgeMiss k) = ⟨if k = .rising then 0x0301 else 0x0300, none⟩ ∧
    ((((k = .rising ∧ s.pin = false) ∨ (k = .falling ∧ s.pin = true)) ∧ k = s.edgeSel) →
      exec (.edgeMiss k) s = .next { s with pin := decide (k = .rising), label := .none }) ∧
    (¬ (((k = .rising ∧ s.pin = false) ∨ (k = .falling ∧ s.pin = true)) ∧ k = s.edgeSel) →
      ¬ HasStep (.edgeMiss k) s)

/-! ### The interrupt path -/

/-- OVF_SVC (R71): the flag clears and M is added to ACC in one step, and a registered callback is notified. -/
def Obligations.OverflowServiceAddsModulus : Prop :=
  ∀ s : State,
    encode .ovfSvc = ⟨0x1000, none⟩ ∧
    ((s.ovfPending = true ∧ s.ovfIe = true ∧ s.ctxOvf = false ∧ s.ctxCapt = false ∧
        ¬ (s.icf = true ∧ s.captIe = true)) →
      exec .ovfSvc s = .next
        (match s.ovfCb with
          | some h => { s with ovfPending := false, acc := s.acc + BitVec.ofNat 64 s.params.modulus,
                               ctxOvf := true, label := .notifyOvf h }
          | none => { s with ovfPending := false, acc := s.acc + BitVec.ofNat 64 s.params.modulus,
                             label := .none })) ∧
    (¬ (s.ovfPending = true ∧ s.ovfIe = true ∧ s.ctxOvf = false ∧ s.ctxCapt = false ∧
        ¬ (s.icf = true ∧ s.captIe = true)) → ¬ HasStep .ovfSvc s)

/-- OVF_CB_RET (R73), and what else has a step while the overflow callback runs. -/
def Obligations.OverflowCallbackReturns : Prop :=
  ∀ s : State,
    encode .ovfCbRet = ⟨0x1200, none⟩ ∧
    ((s.ctxOvf = true ∧ s.ctxCapt = false) →
      exec .ovfCbRet s = .next { s with ctxOvf := false, label := .none }) ∧
    (¬ (s.ctxOvf = true ∧ s.ctxCapt = false) → ¬ HasStep .ovfCbRet s) ∧
    (∀ i : Instr, s.ctxOvf = true → HasStep i s →
      i.agent = .environment ∨ i = .captSvc ∨ i = .captCbRet ∨ i = .ovfCbRet)

/-- CAPT_SVC (R80): the pre-state's EDGE_SEL classifies, the timestamp is `compose(ACC, ICR, OVF_PENDING)`. -/
def Obligations.CaptureServiceStoresTimestamp : Prop :=
  ∀ s : State,
    encode .captSvc = ⟨0x1100, none⟩ ∧
    ((s.icf = true ∧ s.captIe = true ∧ s.ctxCapt = false) →
      exec .captSvc s = .next
        (match s.edgeSel, s.captCb with
          | .rising, none =>
            { s with edgeSel := .falling, icf := false, prevRise := s.curRise,
                     curRise := compose s.params.modulus s.acc s.icr s.ovfPending, label := .none }
          | .rising, some h =>
            { s with edgeSel := .falling, icf := false, prevRise := s.curRise,
                     curRise := compose s.params.modulus s.acc s.icr s.ovfPending,
                     ctxCapt := true, label := .notifyCapt h }
          | .falling, none =>
            { s with edgeSel := .rising, icf := false,
                     fall := compose s.params.modulus s.acc s.icr s.ovfPending, label := .none }
          | .falling, some h =>
            { s with edgeSel := .rising, icf := false,
                     fall := compose s.params.modulus s.acc s.icr s.ovfPending,
                     ctxCapt := true, label := .notifyCapt h })) ∧
    (¬ (s.icf = true ∧ s.captIe = true ∧ s.ctxCapt = false) → ¬ HasStep .captSvc s)

/-- CAPT_CB_RET (R82), and what else has a step while the capture callback runs. -/
def Obligations.CaptureCallbackReturns : Prop :=
  ∀ s : State,
    encode .captCbRet = ⟨0x1300, none⟩ ∧
    (s.ctxCapt = true → exec .captCbRet s = .next { s with ctxCapt := false, label := .none }) ∧
    (s.ctxCapt = false → ¬ HasStep .captCbRet s) ∧
    (∀ i : Instr, s.ctxCapt = true → HasStep i s → i.agent = .environment ∨ i = .captCbRet)

/-- `compose` as a number (R68): exact test `2c < M`, sums modulo 2^64. -/
def Obligations.ComposeAppliesRaceRule : Prop :=
  ∀ (m : Nat) (acc : U64) (c : Ctr) (ovf : Bool),
    (compose m acc c ovf).toNat =
      (acc.toNat + c.toNat + (if ovf = true ∧ 2 * c.toNat < m then m else 0)) % 2 ^ 64

/-! ### The foreground -/

/-- GET_DUTY_AND_PERIOD (R85): its four values, and no state written but the output label. -/
def Obligations.QueryReportsDutyAndPeriod : Prop :=
  ∀ s : State,
    encode .getDutyAndPeriod = ⟨0x2700, none⟩ ∧
    ((s.ctxOvf = false ∧ s.ctxCapt = false) →
      exec .getDutyAndPeriod s = .next { s with label :=
        (let age := s.acc + s.tcnt.setWidth 64 - s.curRise
         let d := if s.curRise ≤ s.fall then s.fall - s.curRise else s.fall - s.prevRise
         let per := s.curRise - s.prevRise
         if s.windowTicks < age then .dutyPeriod 0 Config.tzero 0 Config.tzero
         else .dutyPeriod d (if d = 0 then Config.tzero else Config.tmul d s.tickTime)
           per (if per = 0 then Config.tzero else Config.tmul per s.tickTime)) }) ∧
    (¬ (s.ctxOvf = false ∧ s.ctxCapt = false) → ¬ HasStep .getDutyAndPeriod s)

/-- CONFIG P [, W] (R94): its refusals in order, NO_CLOCK, and a clock selected. -/
def Obligations.ConfigSelectsClockOrRefuses : Prop :=
  ∀ (s : State) (p : Nat) (w : Option Time),
    (p < 256 → encode (.config p w) = ⟨BitVec.ofNat 16 (0x2000 + p), w⟩) ∧
    ((s.ctxOvf = false ∧ s.ctxCapt = false) →
      ((s.running = true ∨ s.ovfIe = true ∨ s.captIe = true) →
        exec (.config p w) s = .next { s with refused := true, label := .refused .configWhileRunning }) ∧
      ((s.running = false ∧ s.ovfIe = false ∧ s.captIe = false) →
        (p ≠ 0 → divisorOf s.params p = none →
          exec (.config p w) s = .next { s with refused := true, label := .refused .badPrescaler }) ∧
        (p = 0 → exec (.config p w) s = .next { s with clkSel := 0, label := .none }) ∧
        (∀ d, p ≠ 0 → divisorOf s.params p = some d →
          exec (.config p w) s = .next
            { s with clkSel := BitVec.ofNat 8 p
                     tickTime := Config.tickTimeOf s.params.fClk d
                     windowTicks := Config.secondsToTicks (w.getD Config.defaultWindowS)
                       (Config.tickTimeOf s.params.fClk d)
                     label := .none }))) ∧
    (¬ (s.ctxOvf = false ∧ s.ctxCapt = false) → ¬ HasStep (.config p w) s)

/-- CONFIG with NO_CLOCK writes only CLK_SEL, a START after it changes nothing, and from reset it leaves the
block in its reset state (R95). -/
def Obligations.NoClockDisablesStart : Prop :=
  (∀ (s t : State) (w : Option Time), exec (.config 0 w) s = .next t → t.label = .none →
    t = { s with clkSel := 0, label := .none } ∧ exec .start t = .next t) ∧
  (∀ (p : Params) (w : Option Time),
    exec (.config 0 w) (State.resetWith p) = .next (State.resetWith p))

/-- START (R96). -/
def Obligations.StartEnablesUnlessNoClock : Prop :=
  ∀ s : State,
    encode .start = ⟨0x2100, none⟩ ∧
    ((s.ctxOvf = false ∧ s.ctxCapt = false) →
      exec .start s = .next (if s.clkSel = 0 then { s with label := .none }
        else { s with running := true, ovfIe := true, captIe := true, label := .none })) ∧
    (¬ (s.ctxOvf = false ∧ s.ctxCapt = false) → ¬ HasStep .start s)

/-- STOP (R97). -/
def Obligations.StopDisablesAndKeepsFlags : Prop :=
  ∀ s : State,
    encode .stop = ⟨0x2200, none⟩ ∧
    ((s.ctxOvf = false ∧ s.ctxCapt = false) →
      exec .stop s = .next { s with running := false, ovfIe := false, captIe := false, label := .none }) ∧
    (¬ (s.ctxOvf = false ∧ s.ctxCapt = false) → ¬ HasStep .stop s)

/-- SET_OVF_CB H (R98): NULL is a no-op, a key registers its handle, any other slot is refused. -/
def Obligations.SetOverflowCallbackRegisters : Prop :=
  ∀ (s : State) (n : Nat),
    (n < 256 → encode (.setOvfCb n) = ⟨BitVec.ofNat 16 (0x2300 + n), none⟩) ∧
    ((s.ctxOvf = false ∧ s.ctxCapt = false) →
      (n = 0 → exec (.setOvfCb n) s = .next { s with label := .none }) ∧
      (∀ h, n ≠ 0 → handleOf s.params n = some h →
        exec (.setOvfCb n) s = .next { s with ovfCb := some h, label := .none }) ∧
      (n ≠ 0 → handleOf s.params n = none →
        exec (.setOvfCb n) s = .next { s with refused := true, label := .refused .badHandleSlot })) ∧
    (¬ (s.ctxOvf = false ∧ s.ctxCapt = false) → ¬ HasStep (.setOvfCb n) s)

/-- SET_CAPT_CB H (R99). -/
def Obligations.SetCaptureCallbackRegisters : Prop :=
  ∀ (s : State) (n : Nat),
    (n < 256 → encode (.setCaptCb n) = ⟨BitVec.ofNat 16 (0x2400 + n), none⟩) ∧
    ((s.ctxOvf = false ∧ s.ctxCapt = false) →
      (n = 0 → exec (.setCaptCb n) s = .next { s with label := .none }) ∧
      (∀ h, n ≠ 0 → handleOf s.params n = some h →
        exec (.setCaptCb n) s = .next { s with captCb := some h, label := .none }) ∧
      (n ≠ 0 → handleOf s.params n = none →
        exec (.setCaptCb n) s = .next { s with refused := true, label := .refused .badHandleSlot })) ∧
    (¬ (s.ctxOvf = false ∧ s.ctxCapt = false) → ¬ HasStep (.setCaptCb n) s)

/-- GET_TICK_TIME (R100). -/
def Obligations.GetTickTimeReports : Prop :=
  ∀ s : State,
    encode .getTickTime = ⟨0x2500, none⟩ ∧
    ((s.ctxOvf = false ∧ s.ctxCapt = false) →
      exec .getTickTime s = .next { s with label := .tickTime s.tickTime }) ∧
    (¬ (s.ctxOvf = false ∧ s.ctxCapt = false) → ¬ HasStep .getTickTime s)

/-- GET_CAPTURE_WINDOW (R101): converted back from ticks, with no exact-zero rule. -/
def Obligations.GetCaptureWindowReports : Prop :=
  ∀ s : State,
    encode .getCaptureWindow = ⟨0x2600, none⟩ ∧
    ((s.ctxOvf = false ∧ s.ctxCapt = false) →
      exec .getCaptureWindow s = .next { s with label := .window (Config.tmul s.windowTicks s.tickTime) }) ∧
    (¬ (s.ctxOvf = false ∧ s.ctxCapt = false) → ¬ HasStep .getCaptureWindow s)

/-- With the falling edge between the two rising edges and the signal not stale, the query reports the exact
differences, and the duty is at most the period (R88, R89; the source's normal case, L1.4 and L1.5). -/
def Obligations.NormalCycleIsMeasured : Prop :=
  ∀ s : State, s.ctxOvf = false → s.ctxCapt = false →
    s.curRise.toNat ≤ s.acc.toNat + s.tcnt.toNat →
    s.acc.toNat + s.tcnt.toNat - s.curRise.toNat ≤ s.windowTicks.toNat →
    s.acc.toNat + s.tcnt.toNat < 2 ^ 64 →
    s.prevRise.toNat ≤ s.fall.toNat → s.fall.toNat < s.curRise.toNat →
    ∃ d dt per pt, exec .getDutyAndPeriod s = .next { s with label := .dutyPeriod d dt per pt } ∧
      d.toNat = s.fall.toNat - s.prevRise.toNat ∧ per.toNat = s.curRise.toNat - s.prevRise.toNat ∧
      d.toNat ≤ per.toNat

/-- A wrap that is pending at the snapshot makes the age wrap to near 2^64 when `ACC + TCNT < CUR_RISE`, and the
query reports a fresh signal as stale (R129). -/
def Obligations.PendingWrapReportsStale : Prop :=
  ∀ s : State, s.ctxOvf = false → s.ctxCapt = false →
    s.acc.toNat + s.tcnt.toNat < s.curRise.toNat →
    s.windowTicks.toNat < 2 ^ 64 - (s.curRise.toNat - (s.acc.toNat + s.tcnt.toNat)) →
    exec .getDutyAndPeriod s = .next { s with label := .dutyPeriod 0 Config.tzero 0 Config.tzero }

/-- The query does not read OVF_PENDING, nor ICF, ICR, EDGE_SEL or PIN: it applies no race correction (R91). -/
def Obligations.QueryIgnoresPendingFlags : Prop :=
  ∀ (s : State) (pending flag level : Bool) (c : Ctr) (e : EdgeKind),
    exec .getDutyAndPeriod
        { s with ovfPending := pending, icf := flag, icr := c, edgeSel := e, pin := level } =
      (match exec .getDutyAndPeriod s with
        | .next t => .next { t with ovfPending := pending, icf := flag, icr := c, edgeSel := e, pin := level }
        | .fault f => .fault f
        | .refused r => .refused r)

/-- Two queries with only TICKs between them give the same output when both are stale or both are not (R92). -/
def Obligations.RepeatedQueriesAgree : Prop :=
  ∀ (n : Nat) (s t u v : State), exec .getDutyAndPeriod s = .next t →
    execAll (List.replicate n .tick) t = .next u → exec .getDutyAndPeriod u = .next v →
    isStale (takeSnapshot s) s.windowTicks = isStale (takeSnapshot u) u.windowTicks →
    v.label = t.label

/-- The operations of configuration, control and callback registration are enabled only outside callbacks, and
none of them reads or writes ACC, the slots, TCNT, ICR, OVF_PENDING, ICF or EDGE_SEL (R93): with other values
there the outcome is the same but for those values. -/
def Obligations.ConfigurationIgnoresEngineState : Prop :=
  ∀ (i : Instr), i.agent = .foreground → i ≠ .getDutyAndPeriod →
    ∀ (s : State) (acc curRise prevRise fall : U64) (tcnt icr : Ctr) (pending flag : Bool) (e : EdgeKind),
      (HasStep i s → s.ctxOvf = false ∧ s.ctxCapt = false) ∧
      exec i { s with acc := acc, curRise := curRise, prevRise := prevRise, fall := fall, tcnt := tcnt,
                      icr := icr, ovfPending := pending, icf := flag, edgeSel := e } =
        (match exec i s with
          | .next t => .next { t with acc := acc, curRise := curRise, prevRise := prevRise, fall := fall,
                                      tcnt := tcnt, icr := icr, ovfPending := pending, icf := flag, edgeSel := e }
          | .fault f => .fault f
          | .refused r => .refused r) ∧
      (∀ t, exec i s = .next t →
        t.acc = s.acc ∧ t.curRise = s.curRise ∧ t.prevRise = s.prevRise ∧ t.fall = s.fall ∧ t.tcnt = s.tcnt ∧
        t.icr = s.icr ∧ t.ovfPending = s.ovfPending ∧ t.icf = s.icf ∧ t.edgeSel = s.edgeSel)

/-! ### Who may step -/

/-- An operation has a step exactly in the states its enabling condition admits (R10, R103); where it has none
the model answers the fault `notEnabled` of its agent (entry 6). -/
def Obligations.StepsExactlyWhenEnabled : Prop :=
  ∀ (i : Instr) (s : State),
    (HasStep i s ↔ enabled i s = true) ∧ (enabled i s = false → exec i s = .fault (.notEnabled i.agent))

/-- The environment is never blocked by a context or by a pending request (R104). -/
def Obligations.EnvironmentIsNeverBlocked : Prop :=
  (∀ s : State, HasStep .tick s ↔ s.running = true) ∧
  (∀ (k : EdgeKind) (s : State), HasStep (.edge k) s ↔
    (k = .rising ∧ s.pin = false) ∨ (k = .falling ∧ s.pin = true)) ∧
  (∀ (k : EdgeKind) (s : State), HasStep (.edgeMiss k) s ↔
    ((k = .rising ∧ s.pin = false) ∨ (k = .falling ∧ s.pin = true)) ∧ k = s.edgeSel) ∧
  (∀ (i : Instr) (s : State) (a b c d : Bool), i.agent = .environment →
    (HasStep i s ↔ HasStep i { s with ctxOvf := a, ctxCapt := b, icf := c, ovfPending := d }))

/-- A foreground operation has a step exactly when no callback runs, whatever requests are raised (R107). -/
def Obligations.ForegroundOnlyOutsideCallbacks : Prop :=
  ∀ (i : Instr) (s : State), i.agent = .foreground →
    (HasStep i s ↔ s.ctxOvf = false ∧ s.ctxCapt = false)

/-- With both requests raised outside every callback, the overflow service has no step, the capture service has
one, and after it the overflow service has a step exactly if no capture callback was notified (R106, R113,
R132). -/
def Obligations.CaptureIsServicedBeforeOverflow : Prop :=
  ∀ s : State, irqCapt s = true → irqOvf s = true → s.ctxOvf = false → s.ctxCapt = false →
    ¬ HasStep .ovfSvc s ∧
    ∃ t, exec .captSvc s = .next t ∧ t.ovfPending = true ∧ t.acc = s.acc ∧ (HasStep .ovfSvc t ↔ s.captCb = none)

/-- Both context bits are 1 only when the capture service ran inside the overflow callback context; the reverse
nesting never occurs (R43, R108). -/
def Obligations.OnlyCaptureNestsInOverflow : Prop :=
  ∀ (i : Instr) (s t : State), exec i s = .next t → t.ctxOvf = true → t.ctxCapt = true →
    (s.ctxOvf = true ∧ s.ctxCapt = true) ∨ (i = .captSvc ∧ s.ctxOvf = true ∧ s.ctxCapt = false)

/-! ### Writers -/

/-- What sets and what clears each flag (R36): no other operation changes it. -/
def Obligations.FlagsHaveOnlyTheirWriters : Prop :=
  ∀ (i : Instr) (s t : State), exec i s = .next t →
    (t.ovfPending ≠ s.ovfPending → (i = .tick ∧ t.ovfPending = true) ∨ (i = .ovfSvc ∧ t.ovfPending = false)) ∧
    (t.icf ≠ s.icf → (i = .edge s.edgeSel ∧ t.icf = true) ∨ (i = .captSvc ∧ t.icf = false)) ∧
    (t.edgeSel ≠ s.edgeSel ↔ i = .captSvc) ∧
    (t.running ≠ s.running → (i = .start ∧ t.running = true) ∨ (i = .stop ∧ t.running = false)) ∧
    (t.ovfIe ≠ s.ovfIe → (i = .start ∧ t.ovfIe = true) ∨ (i = .stop ∧ t.ovfIe = false)) ∧
    (t.captIe ≠ s.captIe → (i = .start ∧ t.captIe = true) ∨ (i = .stop ∧ t.captIe = false)) ∧
    (t.ctxOvf ≠ s.ctxOvf →
      (i = .ovfSvc ∧ t.ctxOvf = true ∧ s.ovfCb ≠ none) ∨ (i = .ovfCbRet ∧ t.ctxOvf = false)) ∧
    (t.ctxCapt ≠ s.ctxCapt →
      (i = .captSvc ∧ t.ctxCapt = true ∧ s.captCb ≠ none) ∨ (i = .captCbRet ∧ t.ctxCapt = false))

/-- Which operation changes each register (R17 to R22, R24, R27, R30 to R33, R52): no other one does. -/
def Obligations.RegistersHaveOnlyTheirWriters : Prop :=
  ∀ (i : Instr) (s t : State), exec i s = .next t →
    (t.acc ≠ s.acc → i = .ovfSvc) ∧
    (t.curRise ≠ s.curRise → i = .captSvc ∧ s.edgeSel = .rising) ∧
    (t.prevRise ≠ s.prevRise → i = .captSvc ∧ s.edgeSel = .rising ∧ t.prevRise = s.curRise) ∧
    (t.fall ≠ s.fall → i = .captSvc ∧ s.edgeSel = .falling) ∧
    (t.tcnt ≠ s.tcnt → i = .tick) ∧
    (t.icr ≠ s.icr → i = .edge s.edgeSel ∧ t.icr = s.tcnt) ∧
    (t.pin ≠ s.pin → ∃ k, i = .edge k ∨ i = .edgeMiss k) ∧
    (t.clkSel ≠ s.clkSel → ∃ p w, i = .config p w) ∧
    (t.windowTicks ≠ s.windowTicks → ∃ p w, i = .config p w ∧ p ≠ 0) ∧
    (t.tickTime ≠ s.tickTime → ∃ p w, i = .config p w ∧ p ≠ 0) ∧
    (t.ovfCb ≠ s.ovfCb → ∃ n, i = .setOvfCb n ∧ n ≠ 0) ∧
    (t.captCb ≠ s.captCb → ∃ n, i = .setCaptCb n ∧ n ≠ 0) ∧
    t.trace = s.trace

/-- No step writes a parameter (R41). That parameters travel in the state is the model's form (entry 1). -/
def Obligations.ParametersAreNeverWritten : Prop :=
  ∀ s t : State, step s = .next t → t.params = s.params

/-- A callback once registered is never removed (R98, R99, D24). -/
def Obligations.CallbacksAreNeverRemoved : Prop :=
  ∀ s t : State, step s = .next t →
    (s.ovfCb ≠ none → t.ovfCb ≠ none) ∧ (s.captCb ≠ none → t.captCb ≠ none)

/-- TICK_TIME and WINDOW_TICKS change only while the counter and both enables are off, so they are constant
where a service can run (R102). -/
def Obligations.ConfigurationChangesOnlyWhileStopped : Prop :=
  ∀ (i : Instr) (s t : State), exec i s = .next t →
    (t.tickTime ≠ s.tickTime ∨ t.windowTicks ≠ s.windowTicks →
      s.running = false ∧ s.ovfIe = false ∧ s.captIe = false) ∧
    (HasStep .captSvc s ∨ HasStep .ovfSvc s → t.tickTime = s.tickTime ∧ t.windowTicks = s.windowTicks)

/-- A refused record writes no block state, sets the sticky mark and carries the label `Refused(reason)` (R111).
That a refusal is a next state is read from R111 (entry 9), and the record is popped off the trace, which is the
model's field (entry 7). -/
def Obligations.RefusalWritesNoBlockState : Prop :=
  ∀ (s t : State) (e : RefuseReason), step s = .next t → t.label = .refused e →
    t = { s with trace := s.trace.tail, refused := true, label := .refused e }

/-- REFUSED is 0 at reset, an operation that is refused sets it, and no operation clears it (R35). -/
def Obligations.RefusedMarkIsSticky : Prop :=
  (∀ p : Params, (State.resetWith p).refused = false) ∧
  (∀ s t : State, step s = .next t →
    (t.refused = true ↔ s.refused = true ∨ ∃ e, t.label = .refused e))

/-! ### Reset and invariants -/

/-- The reset table (R42): every register and flag 0, the callbacks NULL, TICK_TIME `tzero`, EDGE_SEL and PIN
their parameters. -/
def Obligations.ResetLeavesTheTable : Prop :=
  ∀ p : Params,
    (State.resetWith p).acc = 0 ∧ (State.resetWith p).curRise = 0 ∧ (State.resetWith p).prevRise = 0 ∧
    (State.resetWith p).fall = 0 ∧ (State.resetWith p).tcnt = 0 ∧ (State.resetWith p).icr = 0 ∧
    (State.resetWith p).ovfPending = false ∧ (State.resetWith p).icf = false ∧
    (State.resetWith p).edgeSel = p.initialEdge ∧ (State.resetWith p).pin = p.pin0 ∧
    (State.resetWith p).running = false ∧ (State.resetWith p).ovfIe = false ∧
    (State.resetWith p).captIe = false ∧ (State.resetWith p).clkSel = 0 ∧
    (State.resetWith p).windowTicks = 0 ∧ (State.resetWith p).tickTime = Config.tzero ∧
    (State.resetWith p).ovfCb = none ∧ (State.resetWith p).captCb = none ∧
    (State.resetWith p).ctxOvf = false ∧ (State.resetWith p).ctxCapt = false ∧
    (State.resetWith p).refused = false ∧ State.reset = State.resetWith Config.params

/-- The invariant holds at reset, whatever the parameters and the loaded trace (R37, R43). -/
def Obligations.InvariantHoldsAtReset : Prop :=
  Inv State.reset ∧ ∀ (p : Params) (tr : List OpRecord), Inv (boot p tr)

/-- Every step keeps the invariant (R37, R43). -/
def Obligations.InvariantIsKeptByStep : Prop :=
  ∀ s t : State, Inv s → step s = .next t → Inv t

/-- A state ends a complete run exactly when nothing was refused, no callback runs and neither request is raised
(R137). -/
def Obligations.CompleteMeansNoRequestRaised : Prop :=
  ∀ s : State, runComplete s = true ↔
    s.refused = false ∧ s.ctxOvf = false ∧ s.ctxCapt = false ∧ irqCapt s = false ∧ irqOvf s = false

/-! ### Runs -/

/-- The counter counts modulo M (R69, R118): `n` TICKs with the clock running all step, and they set the flag
exactly if the counter passes M − 1. -/
def Obligations.CounterCountsModuloM : Prop :=
  ∀ (n : Nat) (s : State), s.running = true → s.tcnt.toNat < s.params.modulus →
    ∃ t, execAll (List.replicate n .tick) s = .next t ∧
      t.tcnt.toNat = (s.tcnt.toNat + n) % s.params.modulus ∧
      (t.ovfPending = true ↔ s.ovfPending = true ∨ s.params.modulus ≤ s.tcnt.toNat + n) ∧
      t.acc = s.acc ∧ t.icr = s.icr ∧ t.icf = s.icf ∧ t.running = true

/-- From reset, after exactly `k` OVF_SVC steps `ACC = (k · M) mod 2^64`, whatever else happened, and M is the
parameter throughout (R70). -/
def Obligations.AccumulatorCountsServices : Prop :=
  ∀ (p : Params) (tr : List OpRecord) (s : State) (h : History), Run (boot p tr) s h →
    s.acc.toNat = h.services * p.modulus % 2 ^ 64 ∧ s.params = p

/-- No run services more overflows than there were wraps, and a pending flag stands for one more (R126); under
LAT no wrap is lost (R127; which TICK set the flag is the reading of entry 18). -/
def Obligations.ServicesNeverExceedWraps : Prop :=
  ∀ (p : Params) (tr : List OpRecord) (s : State) (h : History),
    (Run (boot p tr) s h → h.services + s.ovfPending.toNat ≤ h.wraps) ∧
    (LatRun (boot p tr) s h → h.services + s.ovfPending.toNat = h.wraps)

/-- In every run, while a capture is pending EDGE_SEL is the kind of the edge that last wrote ICR, so the
service classifies that edge (R79). -/
def Obligations.ClassificationNamesLatchedEdge : Prop :=
  ∀ (p : Params) (tr : List OpRecord) (s : State) (h : History), Run (boot p tr) s h →
    s.icf = true → s.edgeSel = h.latchedKind ∧
      ∀ t : State, exec .captSvc s = .next t →
        (h.latchedKind = .rising → t.prevRise = s.curRise ∧ t.fall = s.fall) ∧
        (h.latchedKind = .falling → t.prevRise = s.prevRise ∧ t.curRise = s.curRise)

/-- In every run that satisfies LAT, the timestamp CAPT_SVC stores equals the extended counter value at its EDGE
step, `add64(M · W_e, c)` (R127; which TICK set the flag is the reading of entry 18). -/
def Obligations.RaceRuleIsExactUnderLatency : Prop :=
  ∀ (p : Params) (tr : List OpRecord) (s t : State) (h : History), LatRun (boot p tr) s h →
    nextInstr s = some .captSvc → PCapt s h → step s = .next t →
    (match s.edgeSel with
      | .rising => t.curRise
      | .falling => t.fall) = BitVec.ofNat 64 (p.modulus * h.wrapsAtLatch + s.icr.toNat)

/-- Under LAT and before ACC reaches 2^64, stored rising timestamps do not decrease, nor do stored falling
timestamps, and the current rising one is not below the previous one (R21, R127; which TICK set the flag is the reading
of entry 18). -/
def Obligations.TimestampsDoNotDecreaseUnderLatency : Prop :=
  ∀ (p : Params) (tr : List OpRecord) (s t : State) (h : History), LatRun (boot p tr) s h →
    PCapt s h → step s = .next t → p.modulus * (h.wraps + 1) ≤ 2 ^ 64 →
    s.curRise.toNat ≤ t.curRise.toNat ∧ s.fall.toNat ≤ t.fall.toNat ∧ t.prevRise.toNat ≤ t.curRise.toNat

/-- In a run whose trace holds no START there is no TICK and no service, ACC, the slots and TCNT stay 0, and every
query returns all zeros (R124). A run up to a START later in its trace is covered by the step lemma
`BeforeStartIsKeptUntilStart`. -/
def Obligations.NothingMovesBeforeStart : Prop :=
  ∀ (p : Params) (tr : List OpRecord) (s : State) (h : History),
    (∀ r ∈ tr, decode r ≠ .ok .start) → Run (boot p tr) s h →
    s.acc = 0 ∧ s.curRise = 0 ∧ s.prevRise = 0 ∧ s.fall = 0 ∧ s.tcnt = 0 ∧ s.icr = 0 ∧
    ∀ (i : Instr) (t : State), exec i s = .next t →
      (i.agent = .foreground ∨ ∃ k, i = .edge k ∨ i = .edgeMiss k) ∧
      (i = .getDutyAndPeriod → t.label = .dutyPeriod 0 Config.tzero 0 Config.tzero)

/-- In a fair infinite run, a capture request that is raised is serviced, unless a STOP disables it first
(R116). -/
def Obligations.FairRunsServiceCaptures : Prop :=
  ∀ (st : Nat → State) (op : Nat → Instr) (n : Nat), FairRun st op → irqCapt (st n) = true →
    (∀ m, n ≤ m → op m ≠ .stop) → ∃ m, n ≤ m ∧ op m = .captSvc

/-! ### The invariants behind the claims over runs, as steps from any state -/

/-- Every step keeps the invariant of a state with its history (R70, R79, R126), from every state and history that
meets it. -/
def Obligations.HistoryInvariantIsKeptByStep : Prop :=
  ∀ (s t : State) (h : History), HistoryInv s h → step s = .next t → HistoryInv t (h.after s)

/-- Every step within the latencies of LAT keeps the invariant that makes the race rule exact (R127; which TICK set
the flag is the reading of entry 18). -/
def Obligations.LatencyInvariantIsKeptByStep : Prop :=
  ∀ (s t : State) (h : History), LatInv s h → step s = .next t → PCapt s h → POvf t (h.after s) →
    LatInv t (h.after s)

/-- Every step but a START keeps what holds before boot; in such a state only foreground operations, EDGE and
EDGE_MISS have a step, and the query returns all zeros (R124). -/
def Obligations.BeforeStartIsKeptUntilStart : Prop :=
  ∀ s : State, BeforeStart s →
    (∀ t : State, step s = .next t → nextInstr s ≠ some .start → BeforeStart t) ∧
    (∀ i : Instr, HasStep i s → i.agent = .foreground ∨ ∃ k, i = .edge k ∨ i = .edgeMiss k) ∧
    exec .getDutyAndPeriod s = .next { s with label := .dutyPeriod 0 Config.tzero 0 Config.tzero }

/-- The three hold at reset, whatever the parameters and the loaded trace (R42). -/
def Obligations.RunInvariantsHoldAtReset : Prop :=
  ∀ (p : Params) (tr : List OpRecord),
    HistoryInv (boot p tr) .start ∧ LatInv (boot p tr) .start ∧ BeforeStart (boot p tr)

/-- A raised capture request stays raised through every step but its service and a STOP (R36, R105). -/
def Obligations.CaptureRequestStaysRaised : Prop :=
  ∀ (i : Instr) (s t : State), irqCapt s = true → exec i s = .next t → i ≠ .captSvc → i ≠ .stop →
    irqCapt t = true
end

