-- ==== Sys2Proof/Laws/Decode.lean ====
section
/-! SUPPORT. The fields of a word and the opcode table, each read back as it was written. -/

namespace Sys2Proof

@[simp] theorem opcField_wordOf (o a : BitVec 8) : opcField (wordOf o a) = o := by
  apply BitVec.eq_of_getLsbD_eq
  intro i hi
  have h : ¬ 8 + i < 8 := by omega
  have h2 : 8 + i < 16 := by omega
  simp [opcField, wordOf, hi, h2]

@[simp] theorem argField_wordOf (o a : BitVec 8) : argField (wordOf o a) = a := by
  apply BitVec.eq_of_getLsbD_eq
  intro i hi
  have h2 : i < 16 := by omega
  simp [argField, wordOf, hi, h2]

theorem wordOf_fields (w : OpWord) : wordOf (opcField w) (argField w) = w := by
  apply BitVec.eq_of_getLsbD_eq
  intro i hi
  by_cases h : i < 8
  · simp [opcField, argField, wordOf, hi, h]
  · have h2 : i - 8 < 8 := by omega
    have h3 : 8 + (i - 8) = i := by omega
    simp [opcField, argField, wordOf, hi, h, h2, h3]

theorem opNameOf_opc (o : OpName) : opNameOf o.opc = some o := by cases o <;> decide

/-- An opcode that is in the map is the opcode of the operation it names. -/
theorem opc_of_opNameOf {b : BitVec 8} {o : OpName} (h : opNameOf b = some o) : o.opc = b := by
  have := List.find?_some h
  simpa using this

@[simp] theorem edgeKindOfBit_bitOfEdgeKind (k : EdgeKind) : edgeKindOfBit (bitOfEdgeKind k) = k := by
  cases k <;> rfl

end Sys2Proof
end

