-- ==== Sys2Proof/Laws/State.lean ====
section
/-! SUPPORT. One lemma per field per named update of the state, so that no proof unfolds a record update. -/

namespace Sys2Proof.Machine

/-! ### emit -/

@[simp] theorem emit_acc (l : Label) (s : State) : (emit l s).acc = s.acc := rfl
@[simp] theorem emit_curRise (l : Label) (s : State) : (emit l s).curRise = s.curRise := rfl
@[simp] theorem emit_prevRise (l : Label) (s : State) : (emit l s).prevRise = s.prevRise := rfl
@[simp] theorem emit_fall (l : Label) (s : State) : (emit l s).fall = s.fall := rfl
@[simp] theorem emit_tcnt (l : Label) (s : State) : (emit l s).tcnt = s.tcnt := rfl
@[simp] theorem emit_icr (l : Label) (s : State) : (emit l s).icr = s.icr := rfl
@[simp] theorem emit_ovfPending (l : Label) (s : State) : (emit l s).ovfPending = s.ovfPending := rfl
@[simp] theorem emit_icf (l : Label) (s : State) : (emit l s).icf = s.icf := rfl
@[simp] theorem emit_edgeSel (l : Label) (s : State) : (emit l s).edgeSel = s.edgeSel := rfl
@[simp] theorem emit_pin (l : Label) (s : State) : (emit l s).pin = s.pin := rfl
@[simp] theorem emit_running (l : Label) (s : State) : (emit l s).running = s.running := rfl
@[simp] theorem emit_ovfIe (l : Label) (s : State) : (emit l s).ovfIe = s.ovfIe := rfl
@[simp] theorem emit_captIe (l : Label) (s : State) : (emit l s).captIe = s.captIe := rfl
@[simp] theorem emit_clkSel (l : Label) (s : State) : (emit l s).clkSel = s.clkSel := rfl
@[simp] theorem emit_windowTicks (l : Label) (s : State) : (emit l s).windowTicks = s.windowTicks := rfl
@[simp] theorem emit_tickTime (l : Label) (s : State) : (emit l s).tickTime = s.tickTime := rfl
@[simp] theorem emit_ovfCb (l : Label) (s : State) : (emit l s).ovfCb = s.ovfCb := rfl
@[simp] theorem emit_captCb (l : Label) (s : State) : (emit l s).captCb = s.captCb := rfl
@[simp] theorem emit_ctxOvf (l : Label) (s : State) : (emit l s).ctxOvf = s.ctxOvf := rfl
@[simp] theorem emit_ctxCapt (l : Label) (s : State) : (emit l s).ctxCapt = s.ctxCapt := rfl
@[simp] theorem emit_refused (l : Label) (s : State) : (emit l s).refused = s.refused := rfl
@[simp] theorem emit_label (l : Label) (s : State) : (emit l s).label = l := rfl
@[simp] theorem emit_trace (l : Label) (s : State) : (emit l s).trace = s.trace := rfl
@[simp] theorem emit_params (l : Label) (s : State) : (emit l s).params = s.params := rfl

/-! ### refuse -/

@[simp] theorem refuse_acc (r : RefuseReason) (s : State) : (refuse r s).acc = s.acc := rfl
@[simp] theorem refuse_curRise (r : RefuseReason) (s : State) : (refuse r s).curRise = s.curRise := rfl
@[simp] theorem refuse_prevRise (r : RefuseReason) (s : State) : (refuse r s).prevRise = s.prevRise := rfl
@[simp] theorem refuse_fall (r : RefuseReason) (s : State) : (refuse r s).fall = s.fall := rfl
@[simp] theorem refuse_tcnt (r : RefuseReason) (s : State) : (refuse r s).tcnt = s.tcnt := rfl
@[simp] theorem refuse_icr (r : RefuseReason) (s : State) : (refuse r s).icr = s.icr := rfl
@[simp] theorem refuse_ovfPending (r : RefuseReason) (s : State) : (refuse r s).ovfPending = s.ovfPending := rfl
@[simp] theorem refuse_icf (r : RefuseReason) (s : State) : (refuse r s).icf = s.icf := rfl
@[simp] theorem refuse_edgeSel (r : RefuseReason) (s : State) : (refuse r s).edgeSel = s.edgeSel := rfl
@[simp] theorem refuse_pin (r : RefuseReason) (s : State) : (refuse r s).pin = s.pin := rfl
@[simp] theorem refuse_running (r : RefuseReason) (s : State) : (refuse r s).running = s.running := rfl
@[simp] theorem refuse_ovfIe (r : RefuseReason) (s : State) : (refuse r s).ovfIe = s.ovfIe := rfl
@[simp] theorem refuse_captIe (r : RefuseReason) (s : State) : (refuse r s).captIe = s.captIe := rfl
@[simp] theorem refuse_clkSel (r : RefuseReason) (s : State) : (refuse r s).clkSel = s.clkSel := rfl
@[simp] theorem refuse_windowTicks (r : RefuseReason) (s : State) : (refuse r s).windowTicks = s.windowTicks := rfl
@[simp] theorem refuse_tickTime (r : RefuseReason) (s : State) : (refuse r s).tickTime = s.tickTime := rfl
@[simp] theorem refuse_ovfCb (r : RefuseReason) (s : State) : (refuse r s).ovfCb = s.ovfCb := rfl
@[simp] theorem refuse_captCb (r : RefuseReason) (s : State) : (refuse r s).captCb = s.captCb := rfl
@[simp] theorem refuse_ctxOvf (r : RefuseReason) (s : State) : (refuse r s).ctxOvf = s.ctxOvf := rfl
@[simp] theorem refuse_ctxCapt (r : RefuseReason) (s : State) : (refuse r s).ctxCapt = s.ctxCapt := rfl
@[simp] theorem refuse_refused (r : RefuseReason) (s : State) : (refuse r s).refused = true := rfl
@[simp] theorem refuse_label (r : RefuseReason) (s : State) : (refuse r s).label = .refused r := rfl
@[simp] theorem refuse_trace (r : RefuseReason) (s : State) : (refuse r s).trace = s.trace := rfl
@[simp] theorem refuse_params (r : RefuseReason) (s : State) : (refuse r s).params = s.params := rfl

/-! ### setEnables -/

@[simp] theorem setEnables_acc (b : Bool) (s : State) : (setEnables b s).acc = s.acc := rfl
@[simp] theorem setEnables_curRise (b : Bool) (s : State) : (setEnables b s).curRise = s.curRise := rfl
@[simp] theorem setEnables_prevRise (b : Bool) (s : State) : (setEnables b s).prevRise = s.prevRise := rfl
@[simp] theorem setEnables_fall (b : Bool) (s : State) : (setEnables b s).fall = s.fall := rfl
@[simp] theorem setEnables_tcnt (b : Bool) (s : State) : (setEnables b s).tcnt = s.tcnt := rfl
@[simp] theorem setEnables_icr (b : Bool) (s : State) : (setEnables b s).icr = s.icr := rfl
@[simp] theorem setEnables_ovfPending (b : Bool) (s : State) : (setEnables b s).ovfPending = s.ovfPending := rfl
@[simp] theorem setEnables_icf (b : Bool) (s : State) : (setEnables b s).icf = s.icf := rfl
@[simp] theorem setEnables_edgeSel (b : Bool) (s : State) : (setEnables b s).edgeSel = s.edgeSel := rfl
@[simp] theorem setEnables_pin (b : Bool) (s : State) : (setEnables b s).pin = s.pin := rfl
@[simp] theorem setEnables_running (b : Bool) (s : State) : (setEnables b s).running = b := rfl
@[simp] theorem setEnables_ovfIe (b : Bool) (s : State) : (setEnables b s).ovfIe = b := rfl
@[simp] theorem setEnables_captIe (b : Bool) (s : State) : (setEnables b s).captIe = b := rfl
@[simp] theorem setEnables_clkSel (b : Bool) (s : State) : (setEnables b s).clkSel = s.clkSel := rfl
@[simp] theorem setEnables_windowTicks (b : Bool) (s : State) : (setEnables b s).windowTicks = s.windowTicks := rfl
@[simp] theorem setEnables_tickTime (b : Bool) (s : State) : (setEnables b s).tickTime = s.tickTime := rfl
@[simp] theorem setEnables_ovfCb (b : Bool) (s : State) : (setEnables b s).ovfCb = s.ovfCb := rfl
@[simp] theorem setEnables_captCb (b : Bool) (s : State) : (setEnables b s).captCb = s.captCb := rfl
@[simp] theorem setEnables_ctxOvf (b : Bool) (s : State) : (setEnables b s).ctxOvf = s.ctxOvf := rfl
@[simp] theorem setEnables_ctxCapt (b : Bool) (s : State) : (setEnables b s).ctxCapt = s.ctxCapt := rfl
@[simp] theorem setEnables_refused (b : Bool) (s : State) : (setEnables b s).refused = s.refused := rfl
@[simp] theorem setEnables_label (b : Bool) (s : State) : (setEnables b s).label = s.label := rfl
@[simp] theorem setEnables_trace (b : Bool) (s : State) : (setEnables b s).trace = s.trace := rfl
@[simp] theorem setEnables_params (b : Bool) (s : State) : (setEnables b s).params = s.params := rfl

/-! ### selectClock -/

@[simp] theorem selectClock_acc (p d : Nat) (w : Time) (s : State) : (selectClock p d w s).acc = s.acc := rfl
@[simp] theorem selectClock_curRise (p d : Nat) (w : Time) (s : State) : (selectClock p d w s).curRise = s.curRise := rfl
@[simp] theorem selectClock_prevRise (p d : Nat) (w : Time) (s : State) : (selectClock p d w s).prevRise = s.prevRise := rfl
@[simp] theorem selectClock_fall (p d : Nat) (w : Time) (s : State) : (selectClock p d w s).fall = s.fall := rfl
@[simp] theorem selectClock_tcnt (p d : Nat) (w : Time) (s : State) : (selectClock p d w s).tcnt = s.tcnt := rfl
@[simp] theorem selectClock_icr (p d : Nat) (w : Time) (s : State) : (selectClock p d w s).icr = s.icr := rfl
@[simp] theorem selectClock_ovfPending (p d : Nat) (w : Time) (s : State) : (selectClock p d w s).ovfPending = s.ovfPending := rfl
@[simp] theorem selectClock_icf (p d : Nat) (w : Time) (s : State) : (selectClock p d w s).icf = s.icf := rfl
@[simp] theorem selectClock_edgeSel (p d : Nat) (w : Time) (s : State) : (selectClock p d w s).edgeSel = s.edgeSel := rfl
@[simp] theorem selectClock_pin (p d : Nat) (w : Time) (s : State) : (selectClock p d w s).pin = s.pin := rfl
@[simp] theorem selectClock_running (p d : Nat) (w : Time) (s : State) : (selectClock p d w s).running = s.running := rfl
@[simp] theorem selectClock_ovfIe (p d : Nat) (w : Time) (s : State) : (selectClock p d w s).ovfIe = s.ovfIe := rfl
@[simp] theorem selectClock_captIe (p d : Nat) (w : Time) (s : State) : (selectClock p d w s).captIe = s.captIe := rfl
@[simp] theorem selectClock_clkSel (p d : Nat) (w : Time) (s : State) : (selectClock p d w s).clkSel = BitVec.ofNat 8 p := rfl
@[simp] theorem selectClock_windowTicks (p d : Nat) (w : Time) (s : State) : (selectClock p d w s).windowTicks = Config.secondsToTicks w (Config.tickTimeOf s.params.fClk d) := rfl
@[simp] theorem selectClock_tickTime (p d : Nat) (w : Time) (s : State) : (selectClock p d w s).tickTime = Config.tickTimeOf s.params.fClk d := rfl
@[simp] theorem selectClock_ovfCb (p d : Nat) (w : Time) (s : State) : (selectClock p d w s).ovfCb = s.ovfCb := rfl
@[simp] theorem selectClock_captCb (p d : Nat) (w : Time) (s : State) : (selectClock p d w s).captCb = s.captCb := rfl
@[simp] theorem selectClock_ctxOvf (p d : Nat) (w : Time) (s : State) : (selectClock p d w s).ctxOvf = s.ctxOvf := rfl
@[simp] theorem selectClock_ctxCapt (p d : Nat) (w : Time) (s : State) : (selectClock p d w s).ctxCapt = s.ctxCapt := rfl
@[simp] theorem selectClock_refused (p d : Nat) (w : Time) (s : State) : (selectClock p d w s).refused = s.refused := rfl
@[simp] theorem selectClock_label (p d : Nat) (w : Time) (s : State) : (selectClock p d w s).label = s.label := rfl
@[simp] theorem selectClock_trace (p d : Nat) (w : Time) (s : State) : (selectClock p d w s).trace = s.trace := rfl
@[simp] theorem selectClock_params (p d : Nat) (w : Time) (s : State) : (selectClock p d w s).params = s.params := rfl

/-! ### serviceOverflow -/

@[simp] theorem serviceOverflow_acc (s : State) : (serviceOverflow s).acc = add64 s.acc (modulus64 s.params.modulus) := rfl
@[simp] theorem serviceOverflow_curRise (s : State) : (serviceOverflow s).curRise = s.curRise := rfl
@[simp] theorem serviceOverflow_prevRise (s : State) : (serviceOverflow s).prevRise = s.prevRise := rfl
@[simp] theorem serviceOverflow_fall (s : State) : (serviceOverflow s).fall = s.fall := rfl
@[simp] theorem serviceOverflow_tcnt (s : State) : (serviceOverflow s).tcnt = s.tcnt := rfl
@[simp] theorem serviceOverflow_icr (s : State) : (serviceOverflow s).icr = s.icr := rfl
@[simp] theorem serviceOverflow_ovfPending (s : State) : (serviceOverflow s).ovfPending = false := rfl
@[simp] theorem serviceOverflow_icf (s : State) : (serviceOverflow s).icf = s.icf := rfl
@[simp] theorem serviceOverflow_edgeSel (s : State) : (serviceOverflow s).edgeSel = s.edgeSel := rfl
@[simp] theorem serviceOverflow_pin (s : State) : (serviceOverflow s).pin = s.pin := rfl
@[simp] theorem serviceOverflow_running (s : State) : (serviceOverflow s).running = s.running := rfl
@[simp] theorem serviceOverflow_ovfIe (s : State) : (serviceOverflow s).ovfIe = s.ovfIe := rfl
@[simp] theorem serviceOverflow_captIe (s : State) : (serviceOverflow s).captIe = s.captIe := rfl
@[simp] theorem serviceOverflow_clkSel (s : State) : (serviceOverflow s).clkSel = s.clkSel := rfl
@[simp] theorem serviceOverflow_windowTicks (s : State) : (serviceOverflow s).windowTicks = s.windowTicks := rfl
@[simp] theorem serviceOverflow_tickTime (s : State) : (serviceOverflow s).tickTime = s.tickTime := rfl
@[simp] theorem serviceOverflow_ovfCb (s : State) : (serviceOverflow s).ovfCb = s.ovfCb := rfl
@[simp] theorem serviceOverflow_captCb (s : State) : (serviceOverflow s).captCb = s.captCb := rfl
@[simp] theorem serviceOverflow_ctxOvf (s : State) : (serviceOverflow s).ctxOvf = s.ctxOvf := rfl
@[simp] theorem serviceOverflow_ctxCapt (s : State) : (serviceOverflow s).ctxCapt = s.ctxCapt := rfl
@[simp] theorem serviceOverflow_refused (s : State) : (serviceOverflow s).refused = s.refused := rfl
@[simp] theorem serviceOverflow_label (s : State) : (serviceOverflow s).label = s.label := rfl
@[simp] theorem serviceOverflow_trace (s : State) : (serviceOverflow s).trace = s.trace := rfl
@[simp] theorem serviceOverflow_params (s : State) : (serviceOverflow s).params = s.params := rfl

/-! ### movePin -/

@[simp] theorem movePin_acc (k : EdgeKind) (s : State) : (movePin k s).acc = s.acc := rfl
@[simp] theorem movePin_curRise (k : EdgeKind) (s : State) : (movePin k s).curRise = s.curRise := rfl
@[simp] theorem movePin_prevRise (k : EdgeKind) (s : State) : (movePin k s).prevRise = s.prevRise := rfl
@[simp] theorem movePin_fall (k : EdgeKind) (s : State) : (movePin k s).fall = s.fall := rfl
@[simp] theorem movePin_tcnt (k : EdgeKind) (s : State) : (movePin k s).tcnt = s.tcnt := rfl
@[simp] theorem movePin_icr (k : EdgeKind) (s : State) : (movePin k s).icr = s.icr := rfl
@[simp] theorem movePin_ovfPending (k : EdgeKind) (s : State) : (movePin k s).ovfPending = s.ovfPending := rfl
@[simp] theorem movePin_icf (k : EdgeKind) (s : State) : (movePin k s).icf = s.icf := rfl
@[simp] theorem movePin_edgeSel (k : EdgeKind) (s : State) : (movePin k s).edgeSel = s.edgeSel := rfl
@[simp] theorem movePin_pin (k : EdgeKind) (s : State) : (movePin k s).pin = levelAfter k := rfl
@[simp] theorem movePin_running (k : EdgeKind) (s : State) : (movePin k s).running = s.running := rfl
@[simp] theorem movePin_ovfIe (k : EdgeKind) (s : State) : (movePin k s).ovfIe = s.ovfIe := rfl
@[simp] theorem movePin_captIe (k : EdgeKind) (s : State) : (movePin k s).captIe = s.captIe := rfl
@[simp] theorem movePin_clkSel (k : EdgeKind) (s : State) : (movePin k s).clkSel = s.clkSel := rfl
@[simp] theorem movePin_windowTicks (k : EdgeKind) (s : State) : (movePin k s).windowTicks = s.windowTicks := rfl
@[simp] theorem movePin_tickTime (k : EdgeKind) (s : State) : (movePin k s).tickTime = s.tickTime := rfl
@[simp] theorem movePin_ovfCb (k : EdgeKind) (s : State) : (movePin k s).ovfCb = s.ovfCb := rfl
@[simp] theorem movePin_captCb (k : EdgeKind) (s : State) : (movePin k s).captCb = s.captCb := rfl
@[simp] theorem movePin_ctxOvf (k : EdgeKind) (s : State) : (movePin k s).ctxOvf = s.ctxOvf := rfl
@[simp] theorem movePin_ctxCapt (k : EdgeKind) (s : State) : (movePin k s).ctxCapt = s.ctxCapt := rfl
@[simp] theorem movePin_refused (k : EdgeKind) (s : State) : (movePin k s).refused = s.refused := rfl
@[simp] theorem movePin_label (k : EdgeKind) (s : State) : (movePin k s).label = s.label := rfl
@[simp] theorem movePin_trace (k : EdgeKind) (s : State) : (movePin k s).trace = s.trace := rfl
@[simp] theorem movePin_params (k : EdgeKind) (s : State) : (movePin k s).params = s.params := rfl

/-! ### latchCapture -/

@[simp] theorem latchCapture_acc (s : State) : (latchCapture s).acc = s.acc := rfl
@[simp] theorem latchCapture_curRise (s : State) : (latchCapture s).curRise = s.curRise := rfl
@[simp] theorem latchCapture_prevRise (s : State) : (latchCapture s).prevRise = s.prevRise := rfl
@[simp] theorem latchCapture_fall (s : State) : (latchCapture s).fall = s.fall := rfl
@[simp] theorem latchCapture_tcnt (s : State) : (latchCapture s).tcnt = s.tcnt := rfl
@[simp] theorem latchCapture_icr (s : State) : (latchCapture s).icr = s.tcnt := rfl
@[simp] theorem latchCapture_ovfPending (s : State) : (latchCapture s).ovfPending = s.ovfPending := rfl
@[simp] theorem latchCapture_icf (s : State) : (latchCapture s).icf = true := rfl
@[simp] theorem latchCapture_edgeSel (s : State) : (latchCapture s).edgeSel = s.edgeSel := rfl
@[simp] theorem latchCapture_pin (s : State) : (latchCapture s).pin = s.pin := rfl
@[simp] theorem latchCapture_running (s : State) : (latchCapture s).running = s.running := rfl
@[simp] theorem latchCapture_ovfIe (s : State) : (latchCapture s).ovfIe = s.ovfIe := rfl
@[simp] theorem latchCapture_captIe (s : State) : (latchCapture s).captIe = s.captIe := rfl
@[simp] theorem latchCapture_clkSel (s : State) : (latchCapture s).clkSel = s.clkSel := rfl
@[simp] theorem latchCapture_windowTicks (s : State) : (latchCapture s).windowTicks = s.windowTicks := rfl
@[simp] theorem latchCapture_tickTime (s : State) : (latchCapture s).tickTime = s.tickTime := rfl
@[simp] theorem latchCapture_ovfCb (s : State) : (latchCapture s).ovfCb = s.ovfCb := rfl
@[simp] theorem latchCapture_captCb (s : State) : (latchCapture s).captCb = s.captCb := rfl
@[simp] theorem latchCapture_ctxOvf (s : State) : (latchCapture s).ctxOvf = s.ctxOvf := rfl
@[simp] theorem latchCapture_ctxCapt (s : State) : (latchCapture s).ctxCapt = s.ctxCapt := rfl
@[simp] theorem latchCapture_refused (s : State) : (latchCapture s).refused = s.refused := rfl
@[simp] theorem latchCapture_label (s : State) : (latchCapture s).label = s.label := rfl
@[simp] theorem latchCapture_trace (s : State) : (latchCapture s).trace = s.trace := rfl
@[simp] theorem latchCapture_params (s : State) : (latchCapture s).params = s.params := rfl

/-! ### rearmCapture -/

@[simp] theorem rearmCapture_acc (s : State) : (rearmCapture s).acc = s.acc := rfl
@[simp] theorem rearmCapture_curRise (s : State) : (rearmCapture s).curRise = s.curRise := rfl
@[simp] theorem rearmCapture_prevRise (s : State) : (rearmCapture s).prevRise = s.prevRise := rfl
@[simp] theorem rearmCapture_fall (s : State) : (rearmCapture s).fall = s.fall := rfl
@[simp] theorem rearmCapture_tcnt (s : State) : (rearmCapture s).tcnt = s.tcnt := rfl
@[simp] theorem rearmCapture_icr (s : State) : (rearmCapture s).icr = s.icr := rfl
@[simp] theorem rearmCapture_ovfPending (s : State) : (rearmCapture s).ovfPending = s.ovfPending := rfl
@[simp] theorem rearmCapture_icf (s : State) : (rearmCapture s).icf = false := rfl
@[simp] theorem rearmCapture_edgeSel (s : State) : (rearmCapture s).edgeSel = otherEdge s.edgeSel := rfl
@[simp] theorem rearmCapture_pin (s : State) : (rearmCapture s).pin = s.pin := rfl
@[simp] theorem rearmCapture_running (s : State) : (rearmCapture s).running = s.running := rfl
@[simp] theorem rearmCapture_ovfIe (s : State) : (rearmCapture s).ovfIe = s.ovfIe := rfl
@[simp] theorem rearmCapture_captIe (s : State) : (rearmCapture s).captIe = s.captIe := rfl
@[simp] theorem rearmCapture_clkSel (s : State) : (rearmCapture s).clkSel = s.clkSel := rfl
@[simp] theorem rearmCapture_windowTicks (s : State) : (rearmCapture s).windowTicks = s.windowTicks := rfl
@[simp] theorem rearmCapture_tickTime (s : State) : (rearmCapture s).tickTime = s.tickTime := rfl
@[simp] theorem rearmCapture_ovfCb (s : State) : (rearmCapture s).ovfCb = s.ovfCb := rfl
@[simp] theorem rearmCapture_captCb (s : State) : (rearmCapture s).captCb = s.captCb := rfl
@[simp] theorem rearmCapture_ctxOvf (s : State) : (rearmCapture s).ctxOvf = s.ctxOvf := rfl
@[simp] theorem rearmCapture_ctxCapt (s : State) : (rearmCapture s).ctxCapt = s.ctxCapt := rfl
@[simp] theorem rearmCapture_refused (s : State) : (rearmCapture s).refused = s.refused := rfl
@[simp] theorem rearmCapture_label (s : State) : (rearmCapture s).label = s.label := rfl
@[simp] theorem rearmCapture_trace (s : State) : (rearmCapture s).trace = s.trace := rfl
@[simp] theorem rearmCapture_params (s : State) : (rearmCapture s).params = s.params := rfl

/-! ### pushRecord -/

@[simp] theorem pushRecord_acc (r : OpRecord) (s : State) : (pushRecord r s).acc = s.acc := rfl
@[simp] theorem pushRecord_curRise (r : OpRecord) (s : State) : (pushRecord r s).curRise = s.curRise := rfl
@[simp] theorem pushRecord_prevRise (r : OpRecord) (s : State) : (pushRecord r s).prevRise = s.prevRise := rfl
@[simp] theorem pushRecord_fall (r : OpRecord) (s : State) : (pushRecord r s).fall = s.fall := rfl
@[simp] theorem pushRecord_tcnt (r : OpRecord) (s : State) : (pushRecord r s).tcnt = s.tcnt := rfl
@[simp] theorem pushRecord_icr (r : OpRecord) (s : State) : (pushRecord r s).icr = s.icr := rfl
@[simp] theorem pushRecord_ovfPending (r : OpRecord) (s : State) : (pushRecord r s).ovfPending = s.ovfPending := rfl
@[simp] theorem pushRecord_icf (r : OpRecord) (s : State) : (pushRecord r s).icf = s.icf := rfl
@[simp] theorem pushRecord_edgeSel (r : OpRecord) (s : State) : (pushRecord r s).edgeSel = s.edgeSel := rfl
@[simp] theorem pushRecord_pin (r : OpRecord) (s : State) : (pushRecord r s).pin = s.pin := rfl
@[simp] theorem pushRecord_running (r : OpRecord) (s : State) : (pushRecord r s).running = s.running := rfl
@[simp] theorem pushRecord_ovfIe (r : OpRecord) (s : State) : (pushRecord r s).ovfIe = s.ovfIe := rfl
@[simp] theorem pushRecord_captIe (r : OpRecord) (s : State) : (pushRecord r s).captIe = s.captIe := rfl
@[simp] theorem pushRecord_clkSel (r : OpRecord) (s : State) : (pushRecord r s).clkSel = s.clkSel := rfl
@[simp] theorem pushRecord_windowTicks (r : OpRecord) (s : State) : (pushRecord r s).windowTicks = s.windowTicks := rfl
@[simp] theorem pushRecord_tickTime (r : OpRecord) (s : State) : (pushRecord r s).tickTime = s.tickTime := rfl
@[simp] theorem pushRecord_ovfCb (r : OpRecord) (s : State) : (pushRecord r s).ovfCb = s.ovfCb := rfl
@[simp] theorem pushRecord_captCb (r : OpRecord) (s : State) : (pushRecord r s).captCb = s.captCb := rfl
@[simp] theorem pushRecord_ctxOvf (r : OpRecord) (s : State) : (pushRecord r s).ctxOvf = s.ctxOvf := rfl
@[simp] theorem pushRecord_ctxCapt (r : OpRecord) (s : State) : (pushRecord r s).ctxCapt = s.ctxCapt := rfl
@[simp] theorem pushRecord_refused (r : OpRecord) (s : State) : (pushRecord r s).refused = s.refused := rfl
@[simp] theorem pushRecord_label (r : OpRecord) (s : State) : (pushRecord r s).label = s.label := rfl
@[simp] theorem pushRecord_trace (r : OpRecord) (s : State) : (pushRecord r s).trace = r :: s.trace := rfl
@[simp] theorem pushRecord_params (r : OpRecord) (s : State) : (pushRecord r s).params = s.params := rfl

/-! ### setContext -/

@[simp] theorem setContext_acc (l : IrqLevel) (b : Bool) (s : State) : (setContext l b s).acc = s.acc := by cases l <;> rfl
@[simp] theorem setContext_curRise (l : IrqLevel) (b : Bool) (s : State) : (setContext l b s).curRise = s.curRise := by cases l <;> rfl
@[simp] theorem setContext_prevRise (l : IrqLevel) (b : Bool) (s : State) : (setContext l b s).prevRise = s.prevRise := by cases l <;> rfl
@[simp] theorem setContext_fall (l : IrqLevel) (b : Bool) (s : State) : (setContext l b s).fall = s.fall := by cases l <;> rfl
@[simp] theorem setContext_tcnt (l : IrqLevel) (b : Bool) (s : State) : (setContext l b s).tcnt = s.tcnt := by cases l <;> rfl
@[simp] theorem setContext_icr (l : IrqLevel) (b : Bool) (s : State) : (setContext l b s).icr = s.icr := by cases l <;> rfl
@[simp] theorem setContext_ovfPending (l : IrqLevel) (b : Bool) (s : State) : (setContext l b s).ovfPending = s.ovfPending := by cases l <;> rfl
@[simp] theorem setContext_icf (l : IrqLevel) (b : Bool) (s : State) : (setContext l b s).icf = s.icf := by cases l <;> rfl
@[simp] theorem setContext_edgeSel (l : IrqLevel) (b : Bool) (s : State) : (setContext l b s).edgeSel = s.edgeSel := by cases l <;> rfl
@[simp] theorem setContext_pin (l : IrqLevel) (b : Bool) (s : State) : (setContext l b s).pin = s.pin := by cases l <;> rfl
@[simp] theorem setContext_running (l : IrqLevel) (b : Bool) (s : State) : (setContext l b s).running = s.running := by cases l <;> rfl
@[simp] theorem setContext_ovfIe (l : IrqLevel) (b : Bool) (s : State) : (setContext l b s).ovfIe = s.ovfIe := by cases l <;> rfl
@[simp] theorem setContext_captIe (l : IrqLevel) (b : Bool) (s : State) : (setContext l b s).captIe = s.captIe := by cases l <;> rfl
@[simp] theorem setContext_clkSel (l : IrqLevel) (b : Bool) (s : State) : (setContext l b s).clkSel = s.clkSel := by cases l <;> rfl
@[simp] theorem setContext_windowTicks (l : IrqLevel) (b : Bool) (s : State) : (setContext l b s).windowTicks = s.windowTicks := by cases l <;> rfl
@[simp] theorem setContext_tickTime (l : IrqLevel) (b : Bool) (s : State) : (setContext l b s).tickTime = s.tickTime := by cases l <;> rfl
@[simp] theorem setContext_ovfCb (l : IrqLevel) (b : Bool) (s : State) : (setContext l b s).ovfCb = s.ovfCb := by cases l <;> rfl
@[simp] theorem setContext_captCb (l : IrqLevel) (b : Bool) (s : State) : (setContext l b s).captCb = s.captCb := by cases l <;> rfl
@[simp] theorem setContext_overflow_ctxOvf (b : Bool) (s : State) : (setContext .overflow b s).ctxOvf = b := rfl
@[simp] theorem setContext_capture_ctxOvf (b : Bool) (s : State) : (setContext .capture b s).ctxOvf = s.ctxOvf := rfl
@[simp] theorem setContext_overflow_ctxCapt (b : Bool) (s : State) : (setContext .overflow b s).ctxCapt = s.ctxCapt := rfl
@[simp] theorem setContext_capture_ctxCapt (b : Bool) (s : State) : (setContext .capture b s).ctxCapt = b := rfl
@[simp] theorem setContext_refused (l : IrqLevel) (b : Bool) (s : State) : (setContext l b s).refused = s.refused := by cases l <;> rfl
@[simp] theorem setContext_label (l : IrqLevel) (b : Bool) (s : State) : (setContext l b s).label = s.label := by cases l <;> rfl
@[simp] theorem setContext_trace (l : IrqLevel) (b : Bool) (s : State) : (setContext l b s).trace = s.trace := by cases l <;> rfl
@[simp] theorem setContext_params (l : IrqLevel) (b : Bool) (s : State) : (setContext l b s).params = s.params := by cases l <;> rfl

/-! ### setCallback -/

@[simp] theorem setCallback_acc (l : IrqLevel) (h : Handle) (s : State) : (setCallback l h s).acc = s.acc := by cases l <;> rfl
@[simp] theorem setCallback_curRise (l : IrqLevel) (h : Handle) (s : State) : (setCallback l h s).curRise = s.curRise := by cases l <;> rfl
@[simp] theorem setCallback_prevRise (l : IrqLevel) (h : Handle) (s : State) : (setCallback l h s).prevRise = s.prevRise := by cases l <;> rfl
@[simp] theorem setCallback_fall (l : IrqLevel) (h : Handle) (s : State) : (setCallback l h s).fall = s.fall := by cases l <;> rfl
@[simp] theorem setCallback_tcnt (l : IrqLevel) (h : Handle) (s : State) : (setCallback l h s).tcnt = s.tcnt := by cases l <;> rfl
@[simp] theorem setCallback_icr (l : IrqLevel) (h : Handle) (s : State) : (setCallback l h s).icr = s.icr := by cases l <;> rfl
@[simp] theorem setCallback_ovfPending (l : IrqLevel) (h : Handle) (s : State) : (setCallback l h s).ovfPending = s.ovfPending := by cases l <;> rfl
@[simp] theorem setCallback_icf (l : IrqLevel) (h : Handle) (s : State) : (setCallback l h s).icf = s.icf := by cases l <;> rfl
@[simp] theorem setCallback_edgeSel (l : IrqLevel) (h : Handle) (s : State) : (setCallback l h s).edgeSel = s.edgeSel := by cases l <;> rfl
@[simp] theorem setCallback_pin (l : IrqLevel) (h : Handle) (s : State) : (setCallback l h s).pin = s.pin := by cases l <;> rfl
@[simp] theorem setCallback_running (l : IrqLevel) (h : Handle) (s : State) : (setCallback l h s).running = s.running := by cases l <;> rfl
@[simp] theorem setCallback_ovfIe (l : IrqLevel) (h : Handle) (s : State) : (setCallback l h s).ovfIe = s.ovfIe := by cases l <;> rfl
@[simp] theorem setCallback_captIe (l : IrqLevel) (h : Handle) (s : State) : (setCallback l h s).captIe = s.captIe := by cases l <;> rfl
@[simp] theorem setCallback_clkSel (l : IrqLevel) (h : Handle) (s : State) : (setCallback l h s).clkSel = s.clkSel := by cases l <;> rfl
@[simp] theorem setCallback_windowTicks (l : IrqLevel) (h : Handle) (s : State) : (setCallback l h s).windowTicks = s.windowTicks := by cases l <;> rfl
@[simp] theorem setCallback_tickTime (l : IrqLevel) (h : Handle) (s : State) : (setCallback l h s).tickTime = s.tickTime := by cases l <;> rfl
@[simp] theorem setCallback_overflow_ovfCb (h : Handle) (s : State) : (setCallback .overflow h s).ovfCb = some h := rfl
@[simp] theorem setCallback_capture_ovfCb (h : Handle) (s : State) : (setCallback .capture h s).ovfCb = s.ovfCb := rfl
@[simp] theorem setCallback_overflow_captCb (h : Handle) (s : State) : (setCallback .overflow h s).captCb = s.captCb := rfl
@[simp] theorem setCallback_capture_captCb (h : Handle) (s : State) : (setCallback .capture h s).captCb = some h := rfl
@[simp] theorem setCallback_ctxOvf (l : IrqLevel) (h : Handle) (s : State) : (setCallback l h s).ctxOvf = s.ctxOvf := by cases l <;> rfl
@[simp] theorem setCallback_ctxCapt (l : IrqLevel) (h : Handle) (s : State) : (setCallback l h s).ctxCapt = s.ctxCapt := by cases l <;> rfl
@[simp] theorem setCallback_refused (l : IrqLevel) (h : Handle) (s : State) : (setCallback l h s).refused = s.refused := by cases l <;> rfl
@[simp] theorem setCallback_label (l : IrqLevel) (h : Handle) (s : State) : (setCallback l h s).label = s.label := by cases l <;> rfl
@[simp] theorem setCallback_trace (l : IrqLevel) (h : Handle) (s : State) : (setCallback l h s).trace = s.trace := by cases l <;> rfl
@[simp] theorem setCallback_params (l : IrqLevel) (h : Handle) (s : State) : (setCallback l h s).params = s.params := by cases l <;> rfl

/-! ### storeTimestamp -/

@[simp] theorem storeTimestamp_acc (e : EdgeKind) (ts : U64) (s : State) : (storeTimestamp e ts s).acc = s.acc := by cases e <;> rfl
@[simp] theorem storeTimestamp_rising_curRise (ts : U64) (s : State) : (storeTimestamp .rising ts s).curRise = ts := rfl
@[simp] theorem storeTimestamp_falling_curRise (ts : U64) (s : State) : (storeTimestamp .falling ts s).curRise = s.curRise := rfl
@[simp] theorem storeTimestamp_rising_prevRise (ts : U64) (s : State) : (storeTimestamp .rising ts s).prevRise = s.curRise := rfl
@[simp] theorem storeTimestamp_falling_prevRise (ts : U64) (s : State) : (storeTimestamp .falling ts s).prevRise = s.prevRise := rfl
@[simp] theorem storeTimestamp_rising_fall (ts : U64) (s : State) : (storeTimestamp .rising ts s).fall = s.fall := rfl
@[simp] theorem storeTimestamp_falling_fall (ts : U64) (s : State) : (storeTimestamp .falling ts s).fall = ts := rfl
@[simp] theorem storeTimestamp_tcnt (e : EdgeKind) (ts : U64) (s : State) : (storeTimestamp e ts s).tcnt = s.tcnt := by cases e <;> rfl
@[simp] theorem storeTimestamp_icr (e : EdgeKind) (ts : U64) (s : State) : (storeTimestamp e ts s).icr = s.icr := by cases e <;> rfl
@[simp] theorem storeTimestamp_ovfPending (e : EdgeKind) (ts : U64) (s : State) : (storeTimestamp e ts s).ovfPending = s.ovfPending := by cases e <;> rfl
@[simp] theorem storeTimestamp_icf (e : EdgeKind) (ts : U64) (s : State) : (storeTimestamp e ts s).icf = s.icf := by cases e <;> rfl
@[simp] theorem storeTimestamp_edgeSel (e : EdgeKind) (ts : U64) (s : State) : (storeTimestamp e ts s).edgeSel = s.edgeSel := by cases e <;> rfl
@[simp] theorem storeTimestamp_pin (e : EdgeKind) (ts : U64) (s : State) : (storeTimestamp e ts s).pin = s.pin := by cases e <;> rfl
@[simp] theorem storeTimestamp_running (e : EdgeKind) (ts : U64) (s : State) : (storeTimestamp e ts s).running = s.running := by cases e <;> rfl
@[simp] theorem storeTimestamp_ovfIe (e : EdgeKind) (ts : U64) (s : State) : (storeTimestamp e ts s).ovfIe = s.ovfIe := by cases e <;> rfl
@[simp] theorem storeTimestamp_captIe (e : EdgeKind) (ts : U64) (s : State) : (storeTimestamp e ts s).captIe = s.captIe := by cases e <;> rfl
@[simp] theorem storeTimestamp_clkSel (e : EdgeKind) (ts : U64) (s : State) : (storeTimestamp e ts s).clkSel = s.clkSel := by cases e <;> rfl
@[simp] theorem storeTimestamp_windowTicks (e : EdgeKind) (ts : U64) (s : State) : (storeTimestamp e ts s).windowTicks = s.windowTicks := by cases e <;> rfl
@[simp] theorem storeTimestamp_tickTime (e : EdgeKind) (ts : U64) (s : State) : (storeTimestamp e ts s).tickTime = s.tickTime := by cases e <;> rfl
@[simp] theorem storeTimestamp_ovfCb (e : EdgeKind) (ts : U64) (s : State) : (storeTimestamp e ts s).ovfCb = s.ovfCb := by cases e <;> rfl
@[simp] theorem storeTimestamp_captCb (e : EdgeKind) (ts : U64) (s : State) : (storeTimestamp e ts s).captCb = s.captCb := by cases e <;> rfl
@[simp] theorem storeTimestamp_ctxOvf (e : EdgeKind) (ts : U64) (s : State) : (storeTimestamp e ts s).ctxOvf = s.ctxOvf := by cases e <;> rfl
@[simp] theorem storeTimestamp_ctxCapt (e : EdgeKind) (ts : U64) (s : State) : (storeTimestamp e ts s).ctxCapt = s.ctxCapt := by cases e <;> rfl
@[simp] theorem storeTimestamp_refused (e : EdgeKind) (ts : U64) (s : State) : (storeTimestamp e ts s).refused = s.refused := by cases e <;> rfl
@[simp] theorem storeTimestamp_label (e : EdgeKind) (ts : U64) (s : State) : (storeTimestamp e ts s).label = s.label := by cases e <;> rfl
@[simp] theorem storeTimestamp_trace (e : EdgeKind) (ts : U64) (s : State) : (storeTimestamp e ts s).trace = s.trace := by cases e <;> rfl
@[simp] theorem storeTimestamp_params (e : EdgeKind) (ts : U64) (s : State) : (storeTimestamp e ts s).params = s.params := by cases e <;> rfl

/-! ### advanceCounter -/

@[simp] theorem advanceCounter_acc (s : State) : (advanceCounter s).acc = s.acc := by
  unfold advanceCounter; split <;> rfl
@[simp] theorem advanceCounter_curRise (s : State) : (advanceCounter s).curRise = s.curRise := by
  unfold advanceCounter; split <;> rfl
@[simp] theorem advanceCounter_prevRise (s : State) : (advanceCounter s).prevRise = s.prevRise := by
  unfold advanceCounter; split <;> rfl
@[simp] theorem advanceCounter_fall (s : State) : (advanceCounter s).fall = s.fall := by
  unfold advanceCounter; split <;> rfl
@[simp] theorem advanceCounter_icr (s : State) : (advanceCounter s).icr = s.icr := by
  unfold advanceCounter; split <;> rfl
@[simp] theorem advanceCounter_icf (s : State) : (advanceCounter s).icf = s.icf := by
  unfold advanceCounter; split <;> rfl
@[simp] theorem advanceCounter_edgeSel (s : State) : (advanceCounter s).edgeSel = s.edgeSel := by
  unfold advanceCounter; split <;> rfl
@[simp] theorem advanceCounter_pin (s : State) : (advanceCounter s).pin = s.pin := by
  unfold advanceCounter; split <;> rfl
@[simp] theorem advanceCounter_running (s : State) : (advanceCounter s).running = s.running := by
  unfold advanceCounter; split <;> rfl
@[simp] theorem advanceCounter_ovfIe (s : State) : (advanceCounter s).ovfIe = s.ovfIe := by
  unfold advanceCounter; split <;> rfl
@[simp] theorem advanceCounter_captIe (s : State) : (advanceCounter s).captIe = s.captIe := by
  unfold advanceCounter; split <;> rfl
@[simp] theorem advanceCounter_clkSel (s : State) : (advanceCounter s).clkSel = s.clkSel := by
  unfold advanceCounter; split <;> rfl
@[simp] theorem advanceCounter_windowTicks (s : State) : (advanceCounter s).windowTicks = s.windowTicks := by
  unfold advanceCounter; split <;> rfl
@[simp] theorem advanceCounter_tickTime (s : State) : (advanceCounter s).tickTime = s.tickTime := by
  unfold advanceCounter; split <;> rfl
@[simp] theorem advanceCounter_ovfCb (s : State) : (advanceCounter s).ovfCb = s.ovfCb := by
  unfold advanceCounter; split <;> rfl
@[simp] theorem advanceCounter_captCb (s : State) : (advanceCounter s).captCb = s.captCb := by
  unfold advanceCounter; split <;> rfl
@[simp] theorem advanceCounter_ctxOvf (s : State) : (advanceCounter s).ctxOvf = s.ctxOvf := by
  unfold advanceCounter; split <;> rfl
@[simp] theorem advanceCounter_ctxCapt (s : State) : (advanceCounter s).ctxCapt = s.ctxCapt := by
  unfold advanceCounter; split <;> rfl
@[simp] theorem advanceCounter_refused (s : State) : (advanceCounter s).refused = s.refused := by
  unfold advanceCounter; split <;> rfl
@[simp] theorem advanceCounter_label (s : State) : (advanceCounter s).label = s.label := by
  unfold advanceCounter; split <;> rfl
@[simp] theorem advanceCounter_trace (s : State) : (advanceCounter s).trace = s.trace := by
  unfold advanceCounter; split <;> rfl
@[simp] theorem advanceCounter_params (s : State) : (advanceCounter s).params = s.params := by
  unfold advanceCounter; split <;> rfl

theorem advanceCounter_tcnt (s : State) :
    (advanceCounter s).tcnt = if counterAtTop s then 0 else s.tcnt + 1 := by
  unfold advanceCounter; split <;> rfl

theorem advanceCounter_ovfPending (s : State) :
    (advanceCounter s).ovfPending = (s.ovfPending || counterAtTop s) := by
  unfold advanceCounter; split <;> simp_all

/-! ### enterCallback -/

@[simp] theorem enterCallback_acc (l : IrqLevel) (s : State) : (enterCallback l s).acc = s.acc := by
  unfold enterCallback; split <;> simp
@[simp] theorem enterCallback_curRise (l : IrqLevel) (s : State) : (enterCallback l s).curRise = s.curRise := by
  unfold enterCallback; split <;> simp
@[simp] theorem enterCallback_prevRise (l : IrqLevel) (s : State) : (enterCallback l s).prevRise = s.prevRise := by
  unfold enterCallback; split <;> simp
@[simp] theorem enterCallback_fall (l : IrqLevel) (s : State) : (enterCallback l s).fall = s.fall := by
  unfold enterCallback; split <;> simp
@[simp] theorem enterCallback_tcnt (l : IrqLevel) (s : State) : (enterCallback l s).tcnt = s.tcnt := by
  unfold enterCallback; split <;> simp
@[simp] theorem enterCallback_icr (l : IrqLevel) (s : State) : (enterCallback l s).icr = s.icr := by
  unfold enterCallback; split <;> simp
@[simp] theorem enterCallback_ovfPending (l : IrqLevel) (s : State) : (enterCallback l s).ovfPending = s.ovfPending := by
  unfold enterCallback; split <;> simp
@[simp] theorem enterCallback_icf (l : IrqLevel) (s : State) : (enterCallback l s).icf = s.icf := by
  unfold enterCallback; split <;> simp
@[simp] theorem enterCallback_edgeSel (l : IrqLevel) (s : State) : (enterCallback l s).edgeSel = s.edgeSel := by
  unfold enterCallback; split <;> simp
@[simp] theorem enterCallback_pin (l : IrqLevel) (s : State) : (enterCallback l s).pin = s.pin := by
  unfold enterCallback; split <;> simp
@[simp] theorem enterCallback_running (l : IrqLevel) (s : State) : (enterCallback l s).running = s.running := by
  unfold enterCallback; split <;> simp
@[simp] theorem enterCallback_ovfIe (l : IrqLevel) (s : State) : (enterCallback l s).ovfIe = s.ovfIe := by
  unfold enterCallback; split <;> simp
@[simp] theorem enterCallback_captIe (l : IrqLevel) (s : State) : (enterCallback l s).captIe = s.captIe := by
  unfold enterCallback; split <;> simp
@[simp] theorem enterCallback_clkSel (l : IrqLevel) (s : State) : (enterCallback l s).clkSel = s.clkSel := by
  unfold enterCallback; split <;> simp
@[simp] theorem enterCallback_windowTicks (l : IrqLevel) (s : State) : (enterCallback l s).windowTicks = s.windowTicks := by
  unfold enterCallback; split <;> simp
@[simp] theorem enterCallback_tickTime (l : IrqLevel) (s : State) : (enterCallback l s).tickTime = s.tickTime := by
  unfold enterCallback; split <;> simp
@[simp] theorem enterCallback_ovfCb (l : IrqLevel) (s : State) : (enterCallback l s).ovfCb = s.ovfCb := by
  unfold enterCallback; split <;> simp
@[simp] theorem enterCallback_captCb (l : IrqLevel) (s : State) : (enterCallback l s).captCb = s.captCb := by
  unfold enterCallback; split <;> simp
@[simp] theorem enterCallback_refused (l : IrqLevel) (s : State) : (enterCallback l s).refused = s.refused := by
  unfold enterCallback; split <;> simp
@[simp] theorem enterCallback_trace (l : IrqLevel) (s : State) : (enterCallback l s).trace = s.trace := by
  unfold enterCallback; split <;> simp
@[simp] theorem enterCallback_params (l : IrqLevel) (s : State) : (enterCallback l s).params = s.params := by
  unfold enterCallback; split <;> simp

@[simp] theorem enterCallback_overflow_ctxOvf (s : State) :
    (enterCallback .overflow s).ctxOvf = (s.ctxOvf || s.ovfCb.isSome) := by
  unfold enterCallback; split <;> simp_all [callbackOf]

@[simp] theorem enterCallback_overflow_ctxCapt (s : State) :
    (enterCallback .overflow s).ctxCapt = s.ctxCapt := by
  unfold enterCallback; split <;> simp

@[simp] theorem enterCallback_capture_ctxCapt (s : State) :
    (enterCallback .capture s).ctxCapt = (s.ctxCapt || s.captCb.isSome) := by
  unfold enterCallback; split <;> simp_all [callbackOf]

@[simp] theorem enterCallback_capture_ctxOvf (s : State) :
    (enterCallback .capture s).ctxOvf = s.ctxOvf := by
  unfold enterCallback; split <;> simp

theorem enterCallback_label (l : IrqLevel) (s : State) :
    (enterCallback l s).label = match callbackOf l s with
      | some h => notifyLabel l h
      | none => .none := by
  unfold enterCallback; split <;> simp_all

/-! ### returnFromCallback -/

@[simp] theorem returnFromCallback_acc (l : IrqLevel) (s : State) : (returnFromCallback l s).acc = s.acc := by
  cases l <;> rfl
@[simp] theorem returnFromCallback_curRise (l : IrqLevel) (s : State) : (returnFromCallback l s).curRise = s.curRise := by
  cases l <;> rfl
@[simp] theorem returnFromCallback_prevRise (l : IrqLevel) (s : State) : (returnFromCallback l s).prevRise = s.prevRise := by
  cases l <;> rfl
@[simp] theorem returnFromCallback_fall (l : IrqLevel) (s : State) : (returnFromCallback l s).fall = s.fall := by
  cases l <;> rfl
@[simp] theorem returnFromCallback_tcnt (l : IrqLevel) (s : State) : (returnFromCallback l s).tcnt = s.tcnt := by
  cases l <;> rfl
@[simp] theorem returnFromCallback_icr (l : IrqLevel) (s : State) : (returnFromCallback l s).icr = s.icr := by
  cases l <;> rfl
@[simp] theorem returnFromCallback_ovfPending (l : IrqLevel) (s : State) : (returnFromCallback l s).ovfPending = s.ovfPending := by
  cases l <;> rfl
@[simp] theorem returnFromCallback_icf (l : IrqLevel) (s : State) : (returnFromCallback l s).icf = s.icf := by
  cases l <;> rfl
@[simp] theorem returnFromCallback_edgeSel (l : IrqLevel) (s : State) : (returnFromCallback l s).edgeSel = s.edgeSel := by
  cases l <;> rfl
@[simp] theorem returnFromCallback_pin (l : IrqLevel) (s : State) : (returnFromCallback l s).pin = s.pin := by
  cases l <;> rfl
@[simp] theorem returnFromCallback_running (l : IrqLevel) (s : State) : (returnFromCallback l s).running = s.running := by
  cases l <;> rfl
@[simp] theorem returnFromCallback_ovfIe (l : IrqLevel) (s : State) : (returnFromCallback l s).ovfIe = s.ovfIe := by
  cases l <;> rfl
@[simp] theorem returnFromCallback_captIe (l : IrqLevel) (s : State) : (returnFromCallback l s).captIe = s.captIe := by
  cases l <;> rfl
@[simp] theorem returnFromCallback_clkSel (l : IrqLevel) (s : State) : (returnFromCallback l s).clkSel = s.clkSel := by
  cases l <;> rfl
@[simp] theorem returnFromCallback_windowTicks (l : IrqLevel) (s : State) : (returnFromCallback l s).windowTicks = s.windowTicks := by
  cases l <;> rfl
@[simp] theorem returnFromCallback_tickTime (l : IrqLevel) (s : State) : (returnFromCallback l s).tickTime = s.tickTime := by
  cases l <;> rfl
@[simp] theorem returnFromCallback_ovfCb (l : IrqLevel) (s : State) : (returnFromCallback l s).ovfCb = s.ovfCb := by
  cases l <;> rfl
@[simp] theorem returnFromCallback_captCb (l : IrqLevel) (s : State) : (returnFromCallback l s).captCb = s.captCb := by
  cases l <;> rfl
@[simp] theorem returnFromCallback_refused (l : IrqLevel) (s : State) : (returnFromCallback l s).refused = s.refused := by
  cases l <;> rfl
@[simp] theorem returnFromCallback_trace (l : IrqLevel) (s : State) : (returnFromCallback l s).trace = s.trace := by
  cases l <;> rfl
@[simp] theorem returnFromCallback_params (l : IrqLevel) (s : State) : (returnFromCallback l s).params = s.params := by
  cases l <;> rfl
@[simp] theorem returnFromCallback_overflow_ctxOvf (s : State) : (returnFromCallback .overflow s).ctxOvf = false := rfl
@[simp] theorem returnFromCallback_overflow_ctxCapt (s : State) : (returnFromCallback .overflow s).ctxCapt = s.ctxCapt := rfl
@[simp] theorem returnFromCallback_capture_ctxOvf (s : State) : (returnFromCallback .capture s).ctxOvf = s.ctxOvf := rfl
@[simp] theorem returnFromCallback_capture_ctxCapt (s : State) : (returnFromCallback .capture s).ctxCapt = false := rfl
@[simp] theorem returnFromCallback_label (l : IrqLevel) (s : State) : (returnFromCallback l s).label = .none := by
  cases l <;> rfl

end Sys2Proof.Machine
end

