-- ==== Sys2Proof/Laws/Ops.lean ====
section
/-! SUPPORT. One lemma per shared operation that says all it can do, cited in place of unfolding it. -/

namespace Sys2Proof.Machine

/-! ### Operands -/

@[simp] theorem otherEdge_otherEdge (e : EdgeKind) : otherEdge (otherEdge e) = e := by cases e <;> rfl

theorem otherEdge_ne (e : EdgeKind) : otherEdge e ≠ e := by cases e <;> decide

theorem levelAfter_eq (k : EdgeKind) : levelAfter k = decide (k = .rising) := by cases k <;> rfl

/-- A key of a finite map is a slot 1..255. -/
theorem key_range_of_mapAt {α : Type} {m : List (Nat × α)} {i : Nat} {a : α} (h : mapAt m i = some a) :
    1 ≤ i ∧ i ≤ 255 := by
  unfold mapAt at h
  split at h
  · assumption
  · simp at h

@[simp] theorem mapAt_zero {α : Type} (m : List (Nat × α)) : mapAt m 0 = none := by simp [mapAt]

/-! ### Enabling -/

/-- A meaning answers a next state exactly when its condition holds, and then the state it computes. -/
theorem whenEnabled_eq_next {a : Agent} {g : Bool} {t u : State} :
    whenEnabled a g t = .next u ↔ g = true ∧ u = t := by
  cases g <;> simp [whenEnabled, eq_comm]

@[simp] theorem whenEnabled_true (a : Agent) (t : State) : whenEnabled a true t = .next t := rfl

@[simp] theorem whenEnabled_false (a : Agent) (t : State) :
    whenEnabled a false t = .fault (.notEnabled a) := rfl

theorem edgeEnabled_iff (k : EdgeKind) (s : State) :
    edgeEnabled k s = true ↔ (k = .rising ∧ s.pin = false) ∨ (k = .falling ∧ s.pin = true) := by
  cases k <;> cases hp : s.pin <;> simp [edgeEnabled, levelAfter, hp]

theorem edgeMissEnabled_iff (k : EdgeKind) (s : State) :
    edgeMissEnabled k s = true ↔ edgeEnabled k s = true ∧ k = s.edgeSel := by
  simp [edgeMissEnabled]

theorem captSvcEnabled_iff (s : State) :
    captSvcEnabled s = true ↔ s.icf = true ∧ s.captIe = true ∧ s.ctxCapt = false := by
  simp [captSvcEnabled, irqCapt, and_assoc]

theorem ovfSvcEnabled_iff (s : State) :
    ovfSvcEnabled s = true ↔ s.ovfPending = true ∧ s.ovfIe = true ∧ s.ctxOvf = false ∧ s.ctxCapt = false ∧
      ¬ (s.icf = true ∧ s.captIe = true) := by
  cases h : s.icf <;> simp [ovfSvcEnabled, irqCapt, irqOvf, and_assoc, h]

theorem ovfCbRetEnabled_iff (s : State) :
    ovfCbRetEnabled s = true ↔ s.ctxOvf = true ∧ s.ctxCapt = false := by
  simp [ovfCbRetEnabled]

theorem foregroundEnabled_iff (s : State) :
    foregroundEnabled s = true ↔ s.ctxOvf = false ∧ s.ctxCapt = false := by
  simp [foregroundEnabled]

/-! ### Arithmetic -/

theorem raceApplies_iff (m : Nat) (c : Ctr) (ovf : Bool) :
    raceApplies m c ovf = true ↔ ovf = true ∧ 2 * c.toNat < m := by
  simp [raceApplies]

theorem counterAtTop_iff (s : State) :
    counterAtTop s = true ↔ s.tcnt.toNat = s.params.modulus - 1 := by
  simp [counterAtTop]

theorem two_le_modulus (p : Params) : 2 ≤ p.modulus := by
  simp [Params.modulus]

theorem modulus_le (p : Params) : p.modulus ≤ 65536 := by
  have := p.modulusLessTwo.isLt
  simp only [Params.modulus]
  omega

theorem zext64_toNat (c : Ctr) : (zext64 c).toNat = c.toNat := by
  simp only [zext64, BitVec.toNat_setWidth]
  have := c.isLt
  omega

theorem isStale_iff (n : Snapshot) (w : U64) : isStale n w = true ↔ w < ageOf n := by
  simp [isStale]

@[simp] theorem ticksToTime_zero (t : Time) : ticksToTime 0 t = Config.tzero := by simp [ticksToTime]

theorem ticksToTime_ne_zero {ticks : U64} (h : ticks ≠ 0) (t : Time) :
    ticksToTime ticks t = Config.tmul ticks t :=
  if_neg h

/-! ### Configuration -/

theorem configBusy_iff (s : State) :
    configBusy s = true ↔ s.running = true ∨ s.ovfIe = true ∨ s.captIe = true := by
  simp [configBusy, or_assoc]

theorem configure_busy {p : Nat} {w : Option Time} {s : State} (hb : configBusy s = true) :
    configure p w s = refuse .configWhileRunning s :=
  if_pos hb

theorem configure_noClock {w : Option Time} {s : State} (hb : configBusy s = false) :
    configure 0 w s = emit .none { s with clkSel := 0 } := by
  simp [configure, hb]

theorem configure_badPrescaler {p : Nat} {w : Option Time} {s : State} (hb : configBusy s = false) (hp : p ≠ 0)
    (hd : divisorOf s.params p = none) : configure p w s = refuse .badPrescaler s := by
  simp [configure, hb, hp, hd]

theorem configure_clock {p d : Nat} {w : Option Time} {s : State} (hb : configBusy s = false) (hp : p ≠ 0)
    (hd : divisorOf s.params p = some d) :
    configure p w s = emit .none (selectClock p d (windowSeconds w) s) := by
  simp [configure, hb, hp, hd]

/-- All that an enabled CONFIG can lead to. -/
theorem configure_cases (p : Nat) (w : Option Time) (s : State) :
    (configBusy s = true ∧ configure p w s = refuse .configWhileRunning s) ∨
    (configBusy s = false ∧ p = 0 ∧ configure p w s = emit .none { s with clkSel := 0 }) ∨
    (configBusy s = false ∧ p ≠ 0 ∧ divisorOf s.params p = none ∧ configure p w s = refuse .badPrescaler s) ∨
    (∃ d, configBusy s = false ∧ p ≠ 0 ∧ divisorOf s.params p = some d ∧
      configure p w s = emit .none (selectClock p d (windowSeconds w) s)) := by
  cases hb : configBusy s
  · by_cases hp : p = 0
    · subst hp
      exact .inr (.inl ⟨rfl, rfl, configure_noClock hb⟩)
    · cases hd : divisorOf s.params p with
      | none => exact .inr (.inr (.inl ⟨rfl, hp, rfl, configure_badPrescaler hb hp hd⟩))
      | some d => exact .inr (.inr (.inr ⟨d, rfl, hp, rfl, configure_clock hb hp hd⟩))
  · exact .inl ⟨rfl, configure_busy hb⟩

theorem registerCallback_null (l : IrqLevel) (s : State) : registerCallback l 0 s = emit .none s := rfl

theorem registerCallback_unknown {l : IrqLevel} {n : Nat} {s : State} (hn : n ≠ 0)
    (hh : handleOf s.params n = none) : registerCallback l n s = refuse .badHandleSlot s := by
  simp [registerCallback, hn, hh]

theorem registerCallback_key {l : IrqLevel} {n : Nat} {h : Handle} {s : State} (hn : n ≠ 0)
    (hh : handleOf s.params n = some h) : registerCallback l n s = emit .none (setCallback l h s) := by
  simp [registerCallback, hn, hh]

/-- All that an enabled callback setter can lead to. -/
theorem registerCallback_cases (l : IrqLevel) (n : Nat) (s : State) :
    (n = 0 ∧ registerCallback l n s = emit .none s) ∨
    (n ≠ 0 ∧ handleOf s.params n = none ∧ registerCallback l n s = refuse .badHandleSlot s) ∨
    (∃ h, n ≠ 0 ∧ handleOf s.params n = some h ∧
      registerCallback l n s = emit .none (setCallback l h s)) := by
  unfold registerCallback
  by_cases hn : n = 0
  · simp [hn]
  · cases hh : handleOf s.params n <;> simp [hn]

/-- The end of a service: a notified callback, or a return at once. -/
theorem enterCallback_cases (l : IrqLevel) (s : State) :
    (callbackOf l s = none ∧ enterCallback l s = emit .none s) ∨
    (∃ h, callbackOf l s = some h ∧ enterCallback l s = emit (notifyLabel l h) (setContext l true s)) := by
  unfold enterCallback
  cases hc : callbackOf l s <;> simp

/-! ### The trace -/

theorem fetchRecord_nil {s : State} (h : s.trace = []) : fetchRecord s = none := by
  simp [fetchRecord, h]

theorem fetchRecord_cons {s : State} {r : OpRecord} {rest : List OpRecord} (h : s.trace = r :: rest) :
    fetchRecord s = some (r, { s with trace := rest }) := by
  simp [fetchRecord, h]

end Sys2Proof.Machine
end

