-- ==== Sys2Proof/Laws/Exec.lean ====
section
/-! SUPPORT. One inversion lemma per operation: `exec` answers a next state exactly when the operation is enabled,
and then this state. Invariants are derived from these without unfolding a meaning. -/

namespace Sys2Proof.Machine

variable {s t : State}

theorem exec_tick_next :
    exec .tick s = .next t ↔ tickEnabled s = true ∧ t = emit .none (advanceCounter s) :=
  whenEnabled_eq_next

theorem exec_edge_next {k : EdgeKind} :
    exec (.edge k) s = .next t ↔ edgeEnabled k s = true ∧
      t = emit .none (if k = s.edgeSel then latchCapture (movePin k s) else movePin k s) :=
  whenEnabled_eq_next

theorem exec_edgeMiss_next {k : EdgeKind} :
    exec (.edgeMiss k) s = .next t ↔ edgeMissEnabled k s = true ∧ t = emit .none (movePin k s) :=
  whenEnabled_eq_next

theorem exec_ovfSvc_next :
    exec .ovfSvc s = .next t ↔ ovfSvcEnabled s = true ∧ t = enterCallback .overflow (serviceOverflow s) :=
  whenEnabled_eq_next

theorem exec_captSvc_next :
    exec .captSvc s = .next t ↔ captSvcEnabled s = true ∧
      t = enterCallback .capture (storeTimestamp s.edgeSel (captureTimestamp s) (rearmCapture s)) :=
  whenEnabled_eq_next

theorem exec_ovfCbRet_next :
    exec .ovfCbRet s = .next t ↔ ovfCbRetEnabled s = true ∧ t = returnFromCallback .overflow s :=
  whenEnabled_eq_next

theorem exec_captCbRet_next :
    exec .captCbRet s = .next t ↔ captCbRetEnabled s = true ∧ t = returnFromCallback .capture s :=
  whenEnabled_eq_next

theorem exec_config_next {p : Nat} {w : Option Time} :
    exec (.config p w) s = .next t ↔ foregroundEnabled s = true ∧ t = configure p w s :=
  whenEnabled_eq_next

theorem exec_start_next :
    exec .start s = .next t ↔ foregroundEnabled s = true ∧
      t = emit .none (if s.clkSel = 0 then s else setEnables true s) :=
  whenEnabled_eq_next

theorem exec_stop_next :
    exec .stop s = .next t ↔ foregroundEnabled s = true ∧ t = emit .none (setEnables false s) :=
  whenEnabled_eq_next

theorem exec_setOvfCb_next {n : Nat} :
    exec (.setOvfCb n) s = .next t ↔ foregroundEnabled s = true ∧ t = registerCallback .overflow n s :=
  whenEnabled_eq_next

theorem exec_setCaptCb_next {n : Nat} :
    exec (.setCaptCb n) s = .next t ↔ foregroundEnabled s = true ∧ t = registerCallback .capture n s :=
  whenEnabled_eq_next

theorem exec_getTickTime_next :
    exec .getTickTime s = .next t ↔ foregroundEnabled s = true ∧ t = emit (.tickTime s.tickTime) s :=
  whenEnabled_eq_next

theorem exec_getCaptureWindow_next :
    exec .getCaptureWindow s = .next t ↔ foregroundEnabled s = true ∧
      t = emit (.window (Config.tmul s.windowTicks s.tickTime)) s :=
  whenEnabled_eq_next

theorem exec_getDutyAndPeriod_next :
    exec .getDutyAndPeriod s = .next t ↔ foregroundEnabled s = true ∧
      t = emit (queryLabel (takeSnapshot s) s.windowTicks s.tickTime) s :=
  whenEnabled_eq_next

/-- All that a step of an operation can do, one constructor per way it can go. -/
inductive Taken (s : State) : Instr → State → Prop where
  | tick (en : tickEnabled s = true) : Taken s .tick (emit .none (advanceCounter s))
  | edgeArmed {k : EdgeKind} (en : edgeEnabled k s = true) (armed : k = s.edgeSel) :
      Taken s (.edge k) (emit .none (latchCapture (movePin k s)))
  | edgeUnarmed {k : EdgeKind} (en : edgeEnabled k s = true) (unarmed : k ≠ s.edgeSel) :
      Taken s (.edge k) (emit .none (movePin k s))
  | edgeMiss {k : EdgeKind} (en : edgeMissEnabled k s = true) : Taken s (.edgeMiss k) (emit .none (movePin k s))
  | ovfSvc (en : ovfSvcEnabled s = true) : Taken s .ovfSvc (enterCallback .overflow (serviceOverflow s))
  | captSvc (en : captSvcEnabled s = true) : Taken s .captSvc
      (enterCallback .capture (storeTimestamp s.edgeSel (captureTimestamp s) (rearmCapture s)))
  | ovfCbRet (en : ovfCbRetEnabled s = true) : Taken s .ovfCbRet (returnFromCallback .overflow s)
  | captCbRet (en : captCbRetEnabled s = true) : Taken s .captCbRet (returnFromCallback .capture s)
  | configBusy {p : Nat} {w : Option Time} (en : foregroundEnabled s = true) (busy : configBusy s = true) :
      Taken s (.config p w) (refuse .configWhileRunning s)
  | configNoClock {w : Option Time} (en : foregroundEnabled s = true) (idle : configBusy s = false) :
      Taken s (.config 0 w) (emit .none { s with clkSel := 0 })
  | configBadPrescaler {p : Nat} {w : Option Time} (en : foregroundEnabled s = true) (idle : configBusy s = false)
      (hp : p ≠ 0) (noKey : divisorOf s.params p = none) : Taken s (.config p w) (refuse .badPrescaler s)
  | configClock {p d : Nat} {w : Option Time} (en : foregroundEnabled s = true) (idle : configBusy s = false)
      (hp : p ≠ 0) (key : divisorOf s.params p = some d) :
      Taken s (.config p w) (emit .none (selectClock p d (windowSeconds w) s))
  | startNoClock (en : foregroundEnabled s = true) (noClock : s.clkSel = 0) : Taken s .start (emit .none s)
  | start (en : foregroundEnabled s = true) (clock : s.clkSel ≠ 0) :
      Taken s .start (emit .none (setEnables true s))
  | stop (en : foregroundEnabled s = true) : Taken s .stop (emit .none (setEnables false s))
  | setOvfCbNull (en : foregroundEnabled s = true) : Taken s (.setOvfCb 0) (emit .none s)
  | setOvfCbUnknown {n : Nat} (en : foregroundEnabled s = true) (hn : n ≠ 0) (noKey : handleOf s.params n = none) :
      Taken s (.setOvfCb n) (refuse .badHandleSlot s)
  | setOvfCb {n : Nat} {h : Handle} (en : foregroundEnabled s = true) (hn : n ≠ 0)
      (key : handleOf s.params n = some h) : Taken s (.setOvfCb n) (emit .none (setCallback .overflow h s))
  | setCaptCbNull (en : foregroundEnabled s = true) : Taken s (.setCaptCb 0) (emit .none s)
  | setCaptCbUnknown {n : Nat} (en : foregroundEnabled s = true) (hn : n ≠ 0)
      (noKey : handleOf s.params n = none) : Taken s (.setCaptCb n) (refuse .badHandleSlot s)
  | setCaptCb {n : Nat} {h : Handle} (en : foregroundEnabled s = true) (hn : n ≠ 0)
      (key : handleOf s.params n = some h) : Taken s (.setCaptCb n) (emit .none (setCallback .capture h s))
  | getTickTime (en : foregroundEnabled s = true) : Taken s .getTickTime (emit (.tickTime s.tickTime) s)
  | getCaptureWindow (en : foregroundEnabled s = true) :
      Taken s .getCaptureWindow (emit (.window (Config.tmul s.windowTicks s.tickTime)) s)
  | getDutyAndPeriod (en : foregroundEnabled s = true) :
      Taken s .getDutyAndPeriod (emit (queryLabel (takeSnapshot s) s.windowTicks s.tickTime) s)

/-- Every next state of `exec` is one of those. -/
theorem exec_taken {i : Instr} (h : exec i s = .next t) : Taken s i t := by
  cases i with
  | tick => obtain ⟨en, rfl⟩ := exec_tick_next.1 h; exact .tick en
  | edge k =>
    obtain ⟨en, rfl⟩ := exec_edge_next.1 h
    split
    · exact .edgeArmed en ‹_›
    · exact .edgeUnarmed en ‹_›
  | edgeMiss k => obtain ⟨en, rfl⟩ := exec_edgeMiss_next.1 h; exact .edgeMiss en
  | ovfSvc => obtain ⟨en, rfl⟩ := exec_ovfSvc_next.1 h; exact .ovfSvc en
  | captSvc => obtain ⟨en, rfl⟩ := exec_captSvc_next.1 h; exact .captSvc en
  | ovfCbRet => obtain ⟨en, rfl⟩ := exec_ovfCbRet_next.1 h; exact .ovfCbRet en
  | captCbRet => obtain ⟨en, rfl⟩ := exec_captCbRet_next.1 h; exact .captCbRet en
  | config p w =>
    obtain ⟨en, rfl⟩ := exec_config_next.1 h
    rcases configure_cases p w s with ⟨hb, e⟩ | ⟨hb, rfl, e⟩ | ⟨hb, hp, hd, e⟩ | ⟨d, hb, hp, hd, e⟩ <;> rw [e]
    · exact .configBusy en hb
    · exact .configNoClock en hb
    · exact .configBadPrescaler en hb hp hd
    · exact .configClock en hb hp hd
  | start =>
    obtain ⟨en, rfl⟩ := exec_start_next.1 h
    split
    · exact .startNoClock en ‹_›
    · exact .start en ‹_›
  | stop => obtain ⟨en, rfl⟩ := exec_stop_next.1 h; exact .stop en
  | setOvfCb n =>
    obtain ⟨en, rfl⟩ := exec_setOvfCb_next.1 h
    rcases registerCallback_cases .overflow n s with ⟨rfl, e⟩ | ⟨hn, hk, e⟩ | ⟨x, hn, hk, e⟩ <;> rw [e]
    · exact .setOvfCbNull en
    · exact .setOvfCbUnknown en hn hk
    · exact .setOvfCb en hn hk
  | setCaptCb n =>
    obtain ⟨en, rfl⟩ := exec_setCaptCb_next.1 h
    rcases registerCallback_cases .capture n s with ⟨rfl, e⟩ | ⟨hn, hk, e⟩ | ⟨x, hn, hk, e⟩ <;> rw [e]
    · exact .setCaptCbNull en
    · exact .setCaptCbUnknown en hn hk
    · exact .setCaptCb en hn hk
  | getTickTime => obtain ⟨en, rfl⟩ := exec_getTickTime_next.1 h; exact .getTickTime en
  | getCaptureWindow => obtain ⟨en, rfl⟩ := exec_getCaptureWindow_next.1 h; exact .getCaptureWindow en
  | getDutyAndPeriod => obtain ⟨en, rfl⟩ := exec_getDutyAndPeriod_next.1 h; exact .getDutyAndPeriod en

/-- Where a step comes from: a record that decodes and whose operation is taken, or one that is refused. -/
theorem step_cases (h : step s = .next t) :
    ∃ r rest, s.trace = r :: rest ∧
      ((∃ i, decode r = .ok i ∧ nextInstr s = some i ∧ exec i { s with trace := rest } = .next t) ∨
       (∃ e, decode r = .error e ∧ nextInstr s = none ∧ t = refuse e { s with trace := rest })) := by
  cases hs : s.trace with
  | nil => simp [step, fetchRecord_nil hs] at h
  | cons r rest =>
    refine ⟨r, rest, rfl, ?_⟩
    simp only [step, fetchRecord_cons hs] at h
    cases hd : decode r with
    | ok i => exact .inl ⟨i, rfl, by simp [nextInstr, hs, hd], by simpa [hd] using h⟩
    | error e => exact .inr ⟨e, rfl, by simp [nextInstr, hs, hd], by simpa [hd, eq_comm] using h⟩

end Sys2Proof.Machine
end

