-- ==== Sys2Proof/Laws/PerInstr.lean ====
section
/-! SUPPORT. The per-instruction family OpcodeField: the encoded word of an instruction carries the opcode of its
mnemonic in bits [15:8] and its argument byte in bits [7:0] (R55, R63). -/

namespace Sys2Proof.Laws.OpcodeField

/-- The two fields of the encoded word. -/
def Statement (i : Instr) : Prop :=
  opcField (encode i).word = i.opName.opc ∧ argField (encode i).word = i.arg

/-- Every encoded word is built from its two fields. -/
theorem of_encode (i : Instr) : Statement i :=
  ⟨opcField_wordOf _ _, argField_wordOf _ _⟩

theorem tick : Statement .tick := of_encode _
theorem edge (k : EdgeKind) : Statement (.edge k) := of_encode _
theorem edgeMiss (k : EdgeKind) : Statement (.edgeMiss k) := of_encode _
theorem ovfSvc : Statement .ovfSvc := of_encode _
theorem captSvc : Statement .captSvc := of_encode _
theorem ovfCbRet : Statement .ovfCbRet := of_encode _
theorem captCbRet : Statement .captCbRet := of_encode _
theorem config (p : Nat) (w : Option Time) : Statement (.config p w) := of_encode _
theorem start : Statement .start := of_encode _
theorem stop : Statement .stop := of_encode _
theorem setOvfCb (h : Nat) : Statement (.setOvfCb h) := of_encode _
theorem setCaptCb (h : Nat) : Statement (.setCaptCb h) := of_encode _
theorem getTickTime : Statement .getTickTime := of_encode _
theorem getCaptureWindow : Statement .getCaptureWindow := of_encode _
theorem getDutyAndPeriod : Statement .getDutyAndPeriod := of_encode _

end Sys2Proof.Laws.OpcodeField
end

