-- ==== Sys2Proof/Tests/Slice0.lean ====
section
/-! SUPPORT. Tests of the model. The words are written out from the formats of R55 and the map of R59; the expected
states are the vectors of spec/95_test_vectors.md, named in each docstring; the witnesses show, for each
obligation, states and operands that meet its hypotheses. -/

namespace Sys2Proof.Tests

open Sys2Proof.Machine

/-! ### Parameters and states of the vectors -/

/-- The conventions of 95_test_vectors.md: M = 1024, index 3 and slots 1 and 2 are keys, RISING, PIN0 = 0. -/
def vectorParams : Params where
  modulusLessTwo := ⟨1022, by decide⟩
  prescalerSet := [(3, 64)]
  handles := [(1, ⟨11⟩), (2, ⟨12⟩)]
  fClk := 16000000
  initialEdge := .rising
  pin0 := false

/-- The same with another modulus. -/
def withModulus (m : Fin 65535) : Params :=
  { vectorParams with modulusLessTwo := m }

/-- Reset under the conventions. -/
def start : State :=
  State.resetWith vectorParams

/-- `T` of the conventions. -/
def tickT : Time :=
  Config.tickTimeOf 16000000 64

/-- The start of the query vectors: `WINDOW_TICKS = 5000, TICK_TIME = T`, and the state of TV-DP-2. -/
def queryStart : State :=
  { start with acc := 1024, tcnt := 976, prevRise := 1000, fall := 1300, curRise := 2000,
               windowTicks := 5000, tickTime := tickT }

/-- A state with both requests raised. -/
def bothRaised : State :=
  { start with running := true, ovfIe := true, captIe := true, ovfPending := true, icf := true, tcnt := 1, icr := 1 }

/-- A state whose next record is `w` with no side operand. -/
def facing (w : OpWord) (s : State) : State :=
  { s with trace := [⟨w, none⟩] }

/-! ### Well-formedness -/

theorem test_wf_refuses_prescaler_256 : (Instr.config 256 none).wf = false := by decide
theorem test_wf_refuses_ovf_slot_256 : (Instr.setOvfCb 256).wf = false := by decide
theorem test_wf_refuses_capt_slot_256 : (Instr.setCaptCb 256).wf = false := by decide
theorem test_wf_accepts_255 :
    (Instr.config 255 none).wf = true ∧ (Instr.setOvfCb 255).wf = true ∧ (Instr.setCaptCb 255).wf = true := by
  decide

/-! ### Decoding: the opcode byte of R59, then the argument byte of its format -/

theorem test_decode_tick : decode ⟨0b0000_0001_0000_0000, none⟩ = .ok .tick := by rfl
theorem test_decode_edge_rising : decode ⟨0b0000_0010_0000_0001, none⟩ = .ok (.edge .rising) := by rfl
theorem test_decode_edge_falling : decode ⟨0b0000_0010_0000_0000, none⟩ = .ok (.edge .falling) := by rfl
theorem test_decode_edge_miss_rising : decode ⟨0b0000_0011_0000_0001, none⟩ = .ok (.edgeMiss .rising) := by rfl
theorem test_decode_edge_miss_falling : decode ⟨0b0000_0011_0000_0000, none⟩ = .ok (.edgeMiss .falling) := by rfl
theorem test_decode_ovf_svc : decode ⟨0b0001_0000_0000_0000, none⟩ = .ok .ovfSvc := by rfl
theorem test_decode_capt_svc : decode ⟨0b0001_0001_0000_0000, none⟩ = .ok .captSvc := by rfl
theorem test_decode_ovf_cb_ret : decode ⟨0b0001_0010_0000_0000, none⟩ = .ok .ovfCbRet := by rfl
theorem test_decode_capt_cb_ret : decode ⟨0b0001_0011_0000_0000, none⟩ = .ok .captCbRet := by rfl
theorem test_decode_config : decode ⟨0b0010_0000_0000_0011, none⟩ = .ok (.config 3 none) := by rfl
theorem test_decode_config_window (w : Time) :
    decode ⟨0b0010_0000_1111_1111, some w⟩ = .ok (.config 255 (some w)) := by
  have h : opNameOf (opcField 0b0010_0000_1111_1111) = some .CONFIG := by decide
  simp only [decode, h]
  rfl
theorem test_decode_start : decode ⟨0b0010_0001_0000_0000, none⟩ = .ok .start := by rfl
theorem test_decode_stop : decode ⟨0b0010_0010_0000_0000, none⟩ = .ok .stop := by rfl
theorem test_decode_set_ovf_cb : decode ⟨0b0010_0011_0000_0001, none⟩ = .ok (.setOvfCb 1) := by rfl
theorem test_decode_set_capt_cb : decode ⟨0b0010_0100_1000_0000, none⟩ = .ok (.setCaptCb 128) := by rfl
theorem test_decode_get_tick_time : decode ⟨0b0010_0101_0000_0000, none⟩ = .ok .getTickTime := by rfl
theorem test_decode_get_capture_window : decode ⟨0b0010_0110_0000_0000, none⟩ = .ok .getCaptureWindow := by rfl
theorem test_decode_get_duty_and_period : decode ⟨0b0010_0111_0000_0000, none⟩ = .ok .getDutyAndPeriod := by rfl

/-- TV-DEC-1 to TV-DEC-6. -/
theorem test_decode_reserved (w : Time) :
    decode ⟨0x0000, none⟩ = .error .reservedOpcode ∧ decode ⟨0xFFFF, none⟩ = .error .reservedOpcode ∧
    decode ⟨0x2800, none⟩ = .error .reservedOpcode ∧ decode ⟨0x0101, none⟩ = .error .reservedArg ∧
    decode ⟨0x0203, none⟩ = .error .reservedArg ∧ decode ⟨0x2500, some w⟩ = .error .reservedArg := by
  have h : opNameOf (opcField 0x2500) = some .GET_TICK_TIME := by decide
  refine ⟨by rfl, by rfl, by rfl, by rfl, by rfl, ?_⟩
  simp only [decode, h]
  rfl

/-- The words of the host's table numbering. -/
theorem test_decode_table_word :
    decodeTableWord 16 0x2409 = some (.setCaptCb 9) ∧ decodeTableWord 16 0x0000 = none := by decide

/-- The examples of R63 and R64, read as text. -/
theorem test_assembly_text :
    parseLine "edge_miss Falling ; an armed edge is lost" = some [.op (.edgeMiss .falling)] ∧
    parseLine "TICKS 276" = some [.ticks 276] ∧ parseLine "SET_CAPT_CB 2" = some [.op (.setCaptCb 2)] ∧
    parseLine "  ; nothing" = some [] ∧ parseLine "TICK 1" = none := by decide

/-- `CONFIG 3, 0.05` of R63. -/
theorem test_assembly_window :
    parseLine "CONFIG 3, 0.05" = some [.op (.config 3 (some (Config.timeOfSeconds (mkRat 5 100))))] := by rfl

/-- The largest index and slot, and one above it, which entry 20 does not read. -/
theorem test_assembly_operand_range :
    parseLine "CONFIG 255" = some [.op (.config 255 none)] ∧ parseLine "CONFIG 256" = none ∧
    parseLine "CONFIG 300, 0.05" = none ∧ parseLine "SET_OVF_CB 256" = none ∧ parseLine "SET_CAPT_CB 256" = none := by
  decide

/-! ### One step of each operation -/

/-- TV-ENG-11. -/
theorem test_tick_wraps :
    exec .tick { start with running := true, tcnt := 1023 } =
      .next { start with running := true, tcnt := 0, ovfPending := true } := by rfl

/-- TV-ENG-13. -/
theorem test_tick_wraps_at_two :
    exec .tick { State.resetWith (withModulus ⟨0, by decide⟩) with running := true, tcnt := 1 } =
      .next { State.resetWith (withModulus ⟨0, by decide⟩) with running := true, tcnt := 0, ovfPending := true } := by
  rfl

/-- TV-CAP-4: the earlier capture is lost. -/
theorem test_edge_overwrites_capture :
    exec (.edge .falling) { start with edgeSel := .falling, pin := true, tcnt := 700, icf := true, icr := 300 } =
      .next { start with edgeSel := .falling, pin := false, tcnt := 700, icf := true, icr := 700 } := by rfl

/-- TV-CAP-2: an unarmed edge moves only the input. -/
theorem test_edge_unarmed :
    exec (.edge .falling) { start with pin := true, tcnt := 400 } =
      .next { start with pin := false, tcnt := 400 } := by rfl

/-- TV-CAP-6. -/
theorem test_edge_miss_moves_pin :
    exec (.edgeMiss .falling) { start with edgeSel := .falling, pin := true, tcnt := 7 } =
      .next { start with edgeSel := .falling, pin := false, tcnt := 7 } := by rfl

/-- TV-CAP-7. -/
theorem test_edge_miss_unarmed_waits :
    exec (.edgeMiss .falling) { start with pin := true } = .fault (.notEnabled .environment) := by rfl

/-- TV-ENG-17. -/
theorem test_ovf_svc_notifies :
    exec .ovfSvc { start with acc := 1024, ovfPending := true, ovfIe := true, ovfCb := some ⟨11⟩ } =
      .next { start with acc := 2048, ovfIe := true, ovfCb := some ⟨11⟩, ctxOvf := true, label := .notifyOvf ⟨11⟩ } := by
  rfl

/-- TV-ENG-16: ACC = 2^64 − 1024 becomes 0. -/
theorem test_ovf_svc_wraps :
    exec .ovfSvc { start with acc := 18446744073709550592, ovfPending := true, ovfIe := true } =
      .next { start with acc := 0, ovfIe := true } := by rfl

/-- TV-CAP-10. -/
theorem test_capt_svc_shifts_rising :
    exec .captSvc { start with icf := true, captIe := true, icr := 976, acc := 1024, curRise := 1000 } =
      .next { start with captIe := true, icr := 976, acc := 1024, prevRise := 1000, curRise := 2000,
                         edgeSel := .falling } := by rfl

/-- TV-CAP-11: the race rule adds M; ACC and OVF_PENDING stay. -/
theorem test_capt_svc_race :
    exec .captSvc { start with icf := true, captIe := true, icr := 10, ovfPending := true, ovfIe := true } =
      .next { start with captIe := true, icr := 10, ovfPending := true, ovfIe := true, curRise := 1034,
                         edgeSel := .falling } := by rfl

/-- TV-ENG-22. -/
theorem test_ovf_cb_ret_waits_for_capture :
    exec .ovfCbRet { start with ctxOvf := true, ctxCapt := true } = .fault (.notEnabled .overflowCallback) := by rfl

/-- TV-ENG-21. -/
theorem test_ovf_cb_ret : exec .ovfCbRet { start with ctxOvf := true } = .next start := by rfl

/-- TV-CAP-16. -/
theorem test_capt_cb_ret_resumes_overflow :
    exec .captCbRet { start with ctxOvf := true, ctxCapt := true } = .next { start with ctxOvf := true } := by rfl

/-- TV-CFG-1, for any window. -/
theorem test_config_selects (w : Time) :
    exec (.config 3 (some w)) start =
      .next { start with clkSel := 3, tickTime := tickT, windowTicks := Config.secondsToTicks w tickT } := by rfl

/-- TV-CFG-5: ConfigWhileRunning is checked before BadPrescaler. -/
theorem test_config_running_first :
    exec (.config 5 none) { start with running := true, ovfIe := true, captIe := true } =
      .next { start with running := true, ovfIe := true, captIe := true, refused := true,
                         label := .refused .configWhileRunning } := by rfl

/-- TV-CFG-7: flags are kept. -/
theorem test_start_keeps_flags :
    exec .start { start with clkSel := 3, ovfPending := true, icf := true } =
      .next { start with clkSel := 3, ovfPending := true, icf := true, running := true, ovfIe := true,
                         captIe := true } := by rfl

/-- TV-CFG-6. -/
theorem test_start_no_clock : exec .start start = .next start := by rfl

/-- TV-CFG-8. -/
theorem test_stop :
    exec .stop bothRaised = .next { bothRaised with running := false, ovfIe := false, captIe := false } := by rfl

/-- TV-CFG-11: NULL is a no-op, not a clear. -/
theorem test_set_ovf_cb_null :
    exec (.setOvfCb 0) { start with ovfCb := some ⟨11⟩ } = .next { start with ovfCb := some ⟨11⟩ } := by rfl

/-- TV-CFG-13. -/
theorem test_set_ovf_cb_running :
    exec (.setOvfCb 2) { start with running := true } =
      .next { start with running := true, ovfCb := some ⟨12⟩ } := by rfl

/-- TV-CFG-12. -/
theorem test_set_capt_cb_bad_slot :
    exec (.setCaptCb 9) start = .next { start with refused := true, label := .refused .badHandleSlot } := by rfl

/-- The example of R99. -/
theorem test_set_capt_cb : exec (.setCaptCb 2) start = .next { start with captCb := some ⟨12⟩ } := by rfl

/-- TV-CFG-15. -/
theorem test_get_tick_time :
    exec .getTickTime { start with tickTime := tickT } =
      .next { start with tickTime := tickT, label := .tickTime tickT } := by rfl

/-- TV-CFG-17: no exact-zero rule. -/
theorem test_get_capture_window_zero :
    exec .getCaptureWindow start = .next { start with label := .window (Config.tmul 0 Config.tzero) } := by rfl

/-- TV-DP-6: FALL below PREV_RISE. -/
theorem test_query_wraps_duty :
    exec .getDutyAndPeriod { queryStart with acc := 2048, tcnt := 0, fall := 500 } =
      .next { queryStart with
        acc := 2048, tcnt := 0, fall := 500,
        label := .dutyPeriod 18446744073709551116 (Config.tmul 18446744073709551116 tickT)
          1000 (Config.tmul 1000 tickT) } := by rfl

/-- TV-DP-9: one tick past the window. -/
theorem test_query_stale :
    exec .getDutyAndPeriod { queryStart with acc := 4096, tcnt := 1005, curRise := 100, prevRise := 0 } =
      .next { queryStart with
        acc := 4096, tcnt := 1005, curRise := 100, prevRise := 0,
        label := .dutyPeriod 0 Config.tzero 0 Config.tzero } := by rfl

/-- TV-ENG-4 to TV-ENG-9: the half-modulus test and the 64-bit wrap. -/
theorem test_compose :
    compose 1024 0 511 true = 1535 ∧ compose 1024 0 512 true = 512 ∧ compose 5 0 2 true = 7 ∧
    compose 5 0 3 true = 3 ∧ compose 1024 2048 300 false = 2348 ∧
    compose 1024 18446744073709550592 10 true = 10 := by decide

/-! ### Witnesses: states and operands that meet the hypotheses of each obligation -/

theorem test_witness_StepRunsDecodedOperation :
    (facing 0x0100 start).trace = ⟨0x0100, none⟩ :: [] ∧ decode ⟨0x0100, none⟩ = .ok .tick := ⟨rfl, rfl⟩

theorem test_witness_StepRefusesUndecodedRecord :
    (facing 0x0101 start).trace = ⟨0x0101, none⟩ :: [] ∧ decode ⟨0x0101, none⟩ = .error .reservedArg := ⟨rfl, rfl⟩

theorem test_witness_StepStopsWhereTraceEnds : start.trace = [] := rfl

/-- The ends of each reserved range. -/
theorem test_witness_ReservedWordsAreRefused :
    (0x00FF#16).toNat / 256 = 0x00 ∧ (0x0400#16).toNat / 256 = 0x04 ∧ (0x0FFF#16).toNat / 256 = 0x0F ∧
    (0x1400#16).toNat / 256 = 0x14 ∧ (0x1FFF#16).toNat / 256 = 0x1F ∧ (0x2800#16).toNat / 256 = 0x28 ∧
    (0xFFFF#16).toNat / 256 = 0xFF ∧
    (0x0101#16).toNat / 256 ∈ [0x01, 0x10, 0x11, 0x12, 0x13, 0x21, 0x22, 0x25, 0x26, 0x27] ∧
    (0x0101#16).toNat % 256 ≠ 0 ∧ (0x27FF#16).toNat / 256 = 0x27 ∧ (0x27FF#16).toNat % 256 = 255 ∧
    (0x0302#16).toNat / 256 ∈ [0x02, 0x03] ∧ (0x0302#16).toNat % 256 = 2 ∧ (0x02FF#16).toNat % 256 = 255 ∧
    (some Config.tzero : Option Time) ≠ none := by
  refine ⟨?_, ?_, ?_, ?_, ?_, ?_, ?_, ?_, ?_, ?_, ?_, ?_, ?_, ?_, ?_⟩ <;> decide

theorem test_witness_DecodeOfEncode :
    (Instr.config 255 (some Config.tzero)).WellFormed ∧ (Instr.setCaptCb 0).WellFormed := ⟨rfl, rfl⟩

theorem test_witness_EncodeOfDecode : decode ⟨0x20FF, none⟩ = .ok (.config 255 none) := by rfl

theorem test_witness_PseudoOperationsExpand : (255 : Nat) < 256 := by decide

/-- A state with the counter at a value and its clock running. -/
def counting (c : Ctr) : State :=
  { start with running := true, ovfIe := true, captIe := true, clkSel := 3, tcnt := c }

/-- A state inside a callback, or inside both. -/
def inCallback (ovf capt : Bool) : State :=
  { start with ctxOvf := ovf, ctxCapt := capt, ovfCb := some ⟨11⟩, captCb := some ⟨12⟩ }

/-- At the top of the counter, below it, and with the clock off. -/
theorem test_witness_TickAdvancesOrWraps :
    ((counting 1023).running = true ∧ (counting 1023).tcnt.toNat = (counting 1023).params.modulus - 1) ∧
    ((counting 0).running = true ∧ (counting 0).tcnt.toNat ≠ (counting 0).params.modulus - 1) ∧
    start.running = false := by decide

/-- Both kinds, armed and not, and an edge to the level the input already has. -/
theorem test_witness_EdgeLatchesArmedKind :
    (EdgeKind.rising = .rising ∧ start.pin = false ∧ EdgeKind.rising = start.edgeSel) ∧
    (EdgeKind.falling = .falling ∧ { start with pin := true }.pin = true ∧ EdgeKind.falling ≠ start.edgeSel) ∧
    ¬ ((EdgeKind.falling = .rising ∧ start.pin = false) ∨ (EdgeKind.falling = .falling ∧ start.pin = true)) := by
  decide

theorem test_witness_EdgeMissMovesOnlyThePin :
    (((EdgeKind.rising = .rising ∧ start.pin = false) ∨ (EdgeKind.rising = .falling ∧ start.pin = true)) ∧
      EdgeKind.rising = start.edgeSel) ∧
    ({ start with edgeSel := .falling, pin := true }.pin = true ∧
      EdgeKind.falling = { start with edgeSel := .falling, pin := true }.edgeSel) ∧
    EdgeKind.falling ≠ start.edgeSel := by decide

/-- Without and with a callback, and gated by a pending capture. -/
theorem test_witness_OverflowServiceAddsModulus :
    ({ bothRaised with icf := false }.ovfPending = true ∧ { bothRaised with icf := false }.ovfIe = true ∧
      { bothRaised with icf := false }.ctxOvf = false ∧ { bothRaised with icf := false }.ctxCapt = false ∧
      ¬ ({ bothRaised with icf := false }.icf = true ∧ { bothRaised with icf := false }.captIe = true) ∧
      { bothRaised with icf := false }.ovfCb = none ∧
      { bothRaised with icf := false, ovfCb := some ⟨11⟩ }.ovfCb = some ⟨11⟩) ∧
    (bothRaised.icf = true ∧ bothRaised.captIe = true) := by decide

theorem test_witness_OverflowCallbackReturns :
    ((inCallback true false).ctxOvf = true ∧ (inCallback true false).ctxCapt = false) ∧
    ¬ ((inCallback true true).ctxOvf = true ∧ (inCallback true true).ctxCapt = false) ∧
    HasStep .ovfCbRet (inCallback true false) ∧ HasStep .captCbRet (inCallback true true) :=
  ⟨by decide, by decide, ⟨_, rfl⟩, ⟨_, rfl⟩⟩

/-- Both kinds of edge, without and with a callback, and a masked request. -/
theorem test_witness_CaptureServiceStoresTimestamp :
    (bothRaised.icf = true ∧ bothRaised.captIe = true ∧ bothRaised.ctxCapt = false ∧
      bothRaised.edgeSel = .rising ∧ bothRaised.captCb = none) ∧
    ({ bothRaised with edgeSel := .falling, captCb := some ⟨12⟩ }.icf = true ∧
      { bothRaised with edgeSel := .falling, captCb := some ⟨12⟩ }.edgeSel = .falling ∧
      { bothRaised with edgeSel := .falling, captCb := some ⟨12⟩ }.captCb = some ⟨12⟩) ∧
    ¬ ({ bothRaised with captIe := false }.icf = true ∧ { bothRaised with captIe := false }.captIe = true ∧
      { bothRaised with captIe := false }.ctxCapt = false) := by decide

theorem test_witness_CaptureCallbackReturns :
    (inCallback true true).ctxCapt = true ∧ (inCallback true false).ctxCapt = false ∧
    HasStep .captCbRet (inCallback true true) :=
  ⟨rfl, rfl, ⟨_, rfl⟩⟩

/-- The foreground, and each way out of it; the query's age at the window, and one past it. -/
theorem test_witness_QueryReportsDutyAndPeriod :
    (queryStart.ctxOvf = false ∧ queryStart.ctxCapt = false) ∧
    ¬ ((inCallback true false).ctxOvf = false ∧ (inCallback true false).ctxCapt = false) ∧
    ¬ ((inCallback false true).ctxOvf = false ∧ (inCallback false true).ctxCapt = false) ∧
    isStale (takeSnapshot { queryStart with acc := 4096, tcnt := 1004, curRise := 100 }) 5000 = false ∧
    isStale (takeSnapshot { queryStart with acc := 4096, tcnt := 1005, curRise := 100 }) 5000 = true := by decide

/-- Running, a known index, an unknown one, NO_CLOCK, and inside a callback. -/
theorem test_witness_ConfigSelectsClockOrRefuses :
    (start.ctxOvf = false ∧ start.ctxCapt = false ∧ start.running = false ∧ start.ovfIe = false ∧
      start.captIe = false) ∧
    (bothRaised.ctxOvf = false ∧ bothRaised.ctxCapt = false ∧ bothRaised.running = true) ∧
    (5 ≠ 0 ∧ divisorOf start.params 5 = none ∧ divisorOf start.params 256 = none) ∧
    (3 ≠ 0 ∧ divisorOf start.params 3 = some 64) ∧
    ¬ ((inCallback false true).ctxOvf = false ∧ (inCallback false true).ctxCapt = false) ∧ 255 < 256 := by decide

theorem test_witness_NoClockDisablesStart :
    exec (.config 0 none) { start with clkSel := 3, label := .refused .badPrescaler } = .next start ∧
    start.label = .none := ⟨rfl, rfl⟩

theorem test_witness_StartEnablesUnlessNoClock :
    (start.ctxOvf = false ∧ start.ctxCapt = false ∧ start.clkSel = 0) ∧ (counting 0).clkSel ≠ 0 ∧
    ¬ ((inCallback true false).ctxOvf = false ∧ (inCallback true false).ctxCapt = false) := by decide

theorem test_witness_StopDisablesAndKeepsFlags :
    (bothRaised.ctxOvf = false ∧ bothRaised.ctxCapt = false) ∧
    ¬ ((inCallback true true).ctxOvf = false ∧ (inCallback true true).ctxCapt = false) := by decide

theorem test_witness_SetOverflowCallbackRegisters :
    (start.ctxOvf = false ∧ start.ctxCapt = false) ∧ (1 ≠ 0 ∧ handleOf start.params 1 = some ⟨11⟩) ∧
    (255 ≠ 0 ∧ handleOf start.params 255 = none) ∧
    ¬ ((inCallback true false).ctxOvf = false ∧ (inCallback true false).ctxCapt = false) := by decide

theorem test_witness_SetCaptureCallbackRegisters :
    (start.ctxOvf = false ∧ start.ctxCapt = false) ∧ (2 ≠ 0 ∧ handleOf start.params 2 = some ⟨12⟩) ∧
    (9 ≠ 0 ∧ handleOf start.params 9 = none) ∧
    ¬ ((inCallback false true).ctxOvf = false ∧ (inCallback false true).ctxCapt = false) := by decide

theorem test_witness_GetTickTimeReports :
    (start.ctxOvf = false ∧ start.ctxCapt = false) ∧
    ¬ ((inCallback true false).ctxOvf = false ∧ (inCallback true false).ctxCapt = false) := by decide

theorem test_witness_GetCaptureWindowReports :
    (queryStart.ctxOvf = false ∧ queryStart.ctxCapt = false) ∧
    ¬ ((inCallback false true).ctxOvf = false ∧ (inCallback false true).ctxCapt = false) := by decide

/-- A cycle whose falling edge stands at the previous rising one, at an age equal to the window. -/
theorem test_witness_NormalCycleIsMeasured :
    let s := { queryStart with acc := 6144, tcnt := 856, fall := 1000 }
    s.ctxOvf = false ∧ s.ctxCapt = false ∧ s.curRise.toNat ≤ s.acc.toNat + s.tcnt.toNat ∧
    s.acc.toNat + s.tcnt.toNat - s.curRise.toNat ≤ s.windowTicks.toNat ∧
    s.acc.toNat + s.tcnt.toNat < 2 ^ 64 ∧ s.prevRise.toNat ≤ s.fall.toNat ∧ s.fall.toNat < s.curRise.toNat := by
  decide

/-- TV-DP-10, and a live value one below CUR_RISE with the widest window that is stale there. -/
theorem test_witness_PendingWrapReportsStale :
    (let s := { queryStart with tcnt := 76, ovfPending := true, curRise := 1124 }
     s.acc.toNat + s.tcnt.toNat < s.curRise.toNat ∧
     s.windowTicks.toNat < 2 ^ 64 - (s.curRise.toNat - (s.acc.toNat + s.tcnt.toNat))) ∧
    (let s := { queryStart with tcnt := 975, windowTicks := 18446744073709551614 }
     s.acc.toNat + s.tcnt.toNat < s.curRise.toNat ∧
     s.windowTicks.toNat < 2 ^ 64 - (s.curRise.toNat - (s.acc.toNat + s.tcnt.toNat))) := by decide

/-- Two queries around one TICK. -/
theorem test_witness_RepeatedQueriesAgree :
    let s := { queryStart with running := true }
    ∃ t u v, exec .getDutyAndPeriod s = .next t ∧ execAll (List.replicate 1 .tick) t = .next u ∧
      exec .getDutyAndPeriod u = .next v ∧
      isStale (takeSnapshot s) s.windowTicks = isStale (takeSnapshot u) u.windowTicks :=
  ⟨_, _, _, rfl, rfl, rfl, by decide⟩

theorem test_witness_ConfigurationIgnoresEngineState :
    Instr.stop.agent = .foreground ∧ Instr.stop ≠ .getDutyAndPeriod ∧ HasStep .stop bothRaised :=
  ⟨rfl, by decide, ⟨_, rfl⟩⟩

theorem test_witness_StepsExactlyWhenEnabled : enabled .tick start = false ∧ enabled .start start = true := by decide

theorem test_witness_EnvironmentIsNeverBlocked : (Instr.edgeMiss .falling).agent = .environment := rfl

theorem test_witness_ForegroundOnlyOutsideCallbacks : (Instr.config 3 none).agent = .foreground := rfl

/-- Without a capture callback and with one. -/
theorem test_witness_CaptureIsServicedBeforeOverflow :
    irqCapt bothRaised = true ∧ irqOvf bothRaised = true ∧ bothRaised.ctxOvf = false ∧
    bothRaised.ctxCapt = false ∧ bothRaised.captCb = none ∧
    { bothRaised with captCb := some ⟨12⟩ }.captCb ≠ none := by decide

/-- The nesting step, and a step inside both contexts. -/
theorem test_witness_OnlyCaptureNestsInOverflow :
    (∃ t, exec .captSvc { bothRaised with ctxOvf := true, captCb := some ⟨12⟩ } = .next t ∧
      t.ctxOvf = true ∧ t.ctxCapt = true) ∧
    (∃ t, exec .tick { inCallback true true with running := true } = .next t ∧ t.ctxOvf = true ∧ t.ctxCapt = true) :=
  ⟨⟨_, rfl, by decide⟩, ⟨_, rfl, by decide⟩⟩

/-- For each flag an operation that sets it and one that clears it. -/
theorem test_witness_FlagsHaveOnlyTheirWriters :
    (∃ t, exec .tick (counting 1023) = .next t ∧ t.ovfPending ≠ (counting 1023).ovfPending) ∧
    (∃ t, exec .ovfSvc { bothRaised with icf := false, ovfCb := some ⟨11⟩ } = .next t ∧ t.ovfPending ≠ true ∧
      t.ctxOvf ≠ false) ∧
    (∃ t, exec (.edge .rising) start = .next t ∧ t.icf ≠ start.icf) ∧
    (∃ t, exec .captSvc { bothRaised with captCb := some ⟨12⟩ } = .next t ∧ t.icf ≠ true ∧ t.ctxCapt ≠ false ∧
      t.edgeSel ≠ .rising) ∧
    (∃ t, exec .start { start with clkSel := 3 } = .next t ∧ t.running ≠ false ∧ t.ovfIe ≠ false ∧ t.captIe ≠ false) ∧
    (∃ t, exec .stop bothRaised = .next t ∧ t.running ≠ true ∧ t.ovfIe ≠ true ∧ t.captIe ≠ true) ∧
    (∃ t, exec .ovfCbRet (inCallback true false) = .next t ∧ t.ctxOvf ≠ true) ∧
    (∃ t, exec .captCbRet (inCallback false true) = .next t ∧ t.ctxCapt ≠ true) :=
  ⟨⟨_, rfl, by decide⟩, ⟨_, rfl, by decide⟩, ⟨_, rfl, by decide⟩, ⟨_, rfl, by decide⟩, ⟨_, rfl, by decide⟩,
    ⟨_, rfl, by decide⟩, ⟨_, rfl, by decide⟩, ⟨_, rfl, by decide⟩⟩

/-- A state whose TICK_TIME and WINDOW_TICKS no CONFIG 3 leaves as they are. -/
def unconfigured : State :=
  { start with tickTime := ⟨tickT.code + 1⟩,
               windowTicks := Config.secondsToTicks Config.defaultWindowS tickT + 1 }

/-- What CONFIG 3 makes of it. -/
def configured : State :=
  { start with clkSel := 3, tickTime := tickT, windowTicks := Config.secondsToTicks Config.defaultWindowS tickT }

theorem configured_differs :
    configured.tickTime ≠ unconfigured.tickTime ∧ configured.windowTicks ≠ unconfigured.windowTicks := by
  constructor
  · intro h
    have := congrArg Time.code h
    simp [configured, unconfigured] at this
  · intro h
    simp [configured, unconfigured] at h

/-- For each register an operation that changes it. -/
theorem test_witness_RegistersHaveOnlyTheirWriters :
    (∃ t, exec .ovfSvc { bothRaised with icf := false } = .next t ∧ t.acc ≠ 0) ∧
    (∃ t, exec .captSvc { bothRaised with curRise := 7 } = .next t ∧ t.curRise ≠ 7 ∧ t.prevRise ≠ 0) ∧
    (∃ t, exec .captSvc { bothRaised with edgeSel := .falling } = .next t ∧ t.fall ≠ 0) ∧
    (∃ t, exec .tick (counting 0) = .next t ∧ t.tcnt ≠ (counting 0).tcnt) ∧
    (∃ t, exec (.edge .rising) (counting 5) = .next t ∧ t.icr ≠ (counting 5).icr ∧ t.pin ≠ (counting 5).pin) ∧
    (exec (.config 3 none) unconfigured = .next configured ∧ configured.tickTime ≠ unconfigured.tickTime ∧
      configured.windowTicks ≠ unconfigured.windowTicks ∧ configured.clkSel ≠ unconfigured.clkSel) ∧
    (∃ t, exec (.setOvfCb 1) start = .next t ∧ t.ovfCb ≠ start.ovfCb) ∧
    (∃ t, exec (.setCaptCb 2) start = .next t ∧ t.captCb ≠ start.captCb) :=
  ⟨⟨_, rfl, by decide⟩, ⟨_, rfl, by decide⟩, ⟨_, rfl, by decide⟩, ⟨_, rfl, by decide⟩, ⟨_, rfl, by decide⟩,
    ⟨rfl, configured_differs.1, configured_differs.2, by decide⟩, ⟨_, rfl, by decide⟩, ⟨_, rfl, by decide⟩⟩

theorem test_witness_ParametersAreNeverWritten :
    step (facing 0x2003 start) = .next { start with clkSel := 3, tickTime := tickT,
                                                    windowTicks := Config.secondsToTicks Config.defaultWindowS tickT } :=
  rfl

theorem test_witness_CallbacksAreNeverRemoved :
    ∃ t, step (facing 0x2300 (inCallback false false)) = .next t ∧ (inCallback false false).ovfCb ≠ none ∧
      (inCallback false false).captCb ≠ none :=
  ⟨_, rfl, by decide⟩

/-- A configuration that changes both, and a state in which a service can run. -/
theorem test_witness_ConfigurationChangesOnlyWhileStopped :
    (exec (.config 3 none) unconfigured = .next configured ∧ configured.tickTime ≠ unconfigured.tickTime) ∧
    (HasStep .captSvc bothRaised ∧ exec .tick bothRaised = .next { bothRaised with tcnt := 2 }) :=
  ⟨⟨rfl, configured_differs.1⟩, ⟨_, rfl⟩, rfl⟩

/-- A refusal by the decoder and one by an operation. -/
theorem test_witness_RefusalWritesNoBlockState :
    (∃ t, step (facing 0x0000 start) = .next t ∧ t.label = .refused .reservedOpcode) ∧
    (∃ t, step (facing 0x2005 start) = .next t ∧ t.label = .refused .badPrescaler) :=
  ⟨⟨_, rfl, rfl⟩, ⟨_, rfl, rfl⟩⟩

theorem test_witness_RefusedMarkIsSticky :
    step (facing 0x2200 { start with refused := true }) = .next { start with refused := true } := rfl

/-- The invariant in a running state, and a step from it that wraps the counter. -/
theorem test_witness_InvariantIsKeptByStep :
    Inv (facing 0x0100 (counting 1023)) ∧ ∃ t, step (facing 0x0100 (counting 1023)) = .next t :=
  ⟨{ tcnt_lt := by decide
     icr_lt := by decide
     ovfIe_eq := rfl
     captIe_eq := rfl
     clkSel_legal := .inr (by decide)
     running_clock := by decide
     tickTime_legal := .inl rfl
     ovfCb_legal := fun _ h => nomatch h
     captCb_legal := fun _ h => nomatch h
     ctxOvf_registered := by decide
     ctxCapt_registered := by decide }, ⟨_, rfl⟩⟩

theorem test_witness_CounterCountsModuloM :
    (counting 1023).running = true ∧ (counting 1023).tcnt.toNat < (counting 1023).params.modulus := by decide

/-! Runs of a few steps with M = 2, which wraps on every second TICK. -/

/-- The next state, or the same state where there is none. -/
def nextOf (s : State) : State :=
  match step s with
  | .next t => t
  | .fault _ => s
  | .refused _ => s

/-- A run that captures an edge while a wrap is pending: CONFIG 3, START, TICK, TICK, EDGE RISING, CAPT_SVC,
OVF_SVC. -/
def raceTrace : List OpRecord :=
  [⟨0x2003, none⟩, ⟨0x2100, none⟩, ⟨0x0100, none⟩, ⟨0x0100, none⟩, ⟨0x0201, none⟩, ⟨0x1100, none⟩, ⟨0x1000, none⟩]

/-- Its parameters. -/
def raceParams : Params :=
  withModulus ⟨0, by decide⟩

/-- Its state and history after a number of steps. -/
def raceAt : Nat → State × History
  | 0 => (boot raceParams raceTrace, .start)
  | n + 1 => (nextOf (raceAt n).1, (raceAt n).2.after (raceAt n).1)

theorem raceAt_latRun (n : Nat) (hn : n ≤ 7) :
    LatRun (boot raceParams raceTrace) (raceAt n).1 (raceAt n).2 := by
  have h0 : LatRun (boot raceParams raceTrace) (raceAt 0).1 (raceAt 0).2 := .start
  have h1 : LatRun (boot raceParams raceTrace) (raceAt 1).1 (raceAt 1).2 :=
    .more h0 rfl (by decide) (by decide)
  have h2 : LatRun (boot raceParams raceTrace) (raceAt 2).1 (raceAt 2).2 :=
    .more h1 rfl (by decide) (by decide)
  have h3 : LatRun (boot raceParams raceTrace) (raceAt 3).1 (raceAt 3).2 :=
    .more h2 rfl (by decide) (by decide)
  have h4 : LatRun (boot raceParams raceTrace) (raceAt 4).1 (raceAt 4).2 :=
    .more h3 rfl (by decide) (by decide)
  have h5 : LatRun (boot raceParams raceTrace) (raceAt 5).1 (raceAt 5).2 :=
    .more h4 rfl (by decide) (by decide)
  have h6 : LatRun (boot raceParams raceTrace) (raceAt 6).1 (raceAt 6).2 :=
    .more h5 rfl (by decide) (by decide)
  have h7 : LatRun (boot raceParams raceTrace) (raceAt 7).1 (raceAt 7).2 :=
    .more h6 rfl (by decide) (by decide)
  interval_cases n <;> assumption

theorem raceAt_run (n : Nat) (hn : n ≤ 7) : Run (boot raceParams raceTrace) (raceAt n).1 (raceAt n).2 := by
  have h : ∀ {s h}, LatRun (boot raceParams raceTrace) s h → Run (boot raceParams raceTrace) s h := by
    intro s h hr
    induction hr with
    | start => exact .start
    | more _ hstep _ _ ih => exact .more ih hstep
  exact h (raceAt_latRun n hn)

/-- One service after seven steps. -/
theorem test_witness_AccumulatorCountsServices :
    Run (boot raceParams raceTrace) (raceAt 7).1 (raceAt 7).2 ∧ (raceAt 7).2.services = 1 ∧ (raceAt 7).1.acc = 2 :=
  ⟨raceAt_run 7 (by decide), by decide, by decide⟩

/-- One wrap, pending after five steps and serviced after seven. -/
theorem test_witness_ServicesNeverExceedWraps :
    Run (boot raceParams raceTrace) (raceAt 5).1 (raceAt 5).2 ∧
    LatRun (boot raceParams raceTrace) (raceAt 7).1 (raceAt 7).2 ∧ (raceAt 5).1.ovfPending = true ∧
    (raceAt 5).2.wraps = 1 :=
  ⟨raceAt_run 5 (by decide), raceAt_latRun 7 (by decide), by decide, by decide⟩

/-- A rising capture is pending after five steps; a falling one after one step from reset armed for it. -/
theorem test_witness_ClassificationNamesLatchedEdge :
    (Run (boot raceParams raceTrace) (raceAt 5).1 (raceAt 5).2 ∧ (raceAt 5).1.icf = true ∧
      (raceAt 5).2.latchedKind = .rising ∧ exec .captSvc (raceAt 5).1 = .next (nextOf { (raceAt 5).1 with
        trace := ⟨0x1100, none⟩ :: (raceAt 5).1.trace })) ∧
    (let s := boot { vectorParams with initialEdge := .falling, pin0 := true } [⟨0x0200, none⟩]
     Run s (nextOf s) (History.start.after s) ∧ (nextOf s).icf = true ∧
      (History.start.after s).latchedKind = .falling) :=
  ⟨⟨raceAt_run 5 (by decide), by decide, by decide, rfl⟩, .more .start rfl, by decide, by decide⟩

/-- The next record after five steps is CAPT_SVC, with the wrap still pending. -/
theorem test_witness_RaceRuleIsExactUnderLatency :
    LatRun (boot raceParams raceTrace) (raceAt 5).1 (raceAt 5).2 ∧ nextInstr (raceAt 5).1 = some .captSvc ∧
    PCapt (raceAt 5).1 (raceAt 5).2 ∧ step (raceAt 5).1 = .next (raceAt 6).1 ∧
    (raceAt 5).1.edgeSel = .rising ∧ (raceAt 6).1.curRise = 2 ∧ (raceAt 5).2.wrapsAtLatch = 1 :=
  ⟨raceAt_latRun 5 (by decide), by decide, by decide, rfl, by decide, by decide, by decide⟩

theorem test_witness_TimestampsDoNotDecreaseUnderLatency :
    LatRun (boot raceParams raceTrace) (raceAt 5).1 (raceAt 5).2 ∧ PCapt (raceAt 5).1 (raceAt 5).2 ∧
    step (raceAt 5).1 = .next (raceAt 6).1 ∧ raceParams.modulus * ((raceAt 5).2.wraps + 1) ≤ 2 ^ 64 :=
  ⟨raceAt_latRun 5 (by decide), by decide, rfl, by decide⟩

/-- An edge before START, and a query after it. -/
theorem test_witness_NothingMovesBeforeStart :
    let s := boot vectorParams [⟨0x0201, none⟩]
    (∀ r ∈ [(⟨0x0201, none⟩ : OpRecord)], decode r ≠ .ok .start) ∧
    Run s (nextOf s) (History.start.after s) ∧ (nextOf s).icf = true ∧ HasStep .getDutyAndPeriod (nextOf s) := by
  refine ⟨?_, .more .start rfl, by decide, ⟨_, rfl⟩⟩
  intro r hr h
  simp only [List.mem_singleton] at hr
  subst hr
  rw [test_decode_edge_rising] at h
  nomatch h

/-! An infinite run: a pending capture is serviced, and then the foreground asks for the tick time for ever. -/

/-- The state with the capture pending. -/
def pendingCapture : State :=
  { counting 5 with icf := true, icr := 5 }

/-- The state after the service, with the label of the query. -/
def askingFor : State :=
  { counting 5 with icr := 5, edgeSel := .falling, curRise := 5, label := .tickTime Config.tzero }

/-- The states of the run. -/
def fairStates : Nat → State
  | 0 => pendingCapture
  | 1 => { askingFor with label := .none }
  | _ + 2 => askingFor

/-- Its operations. -/
def fairOps : Nat → Instr
  | 0 => .captSvc
  | _ + 1 => .getTickTime

theorem test_witness_FairRunsServiceCaptures :
    FairRun fairStates fairOps ∧ irqCapt (fairStates 0) = true ∧ ∀ m, 0 ≤ m → fairOps m ≠ .stop := by
  have never : ∀ i : Instr, (∀ n, enabled i (fairStates (n + 1)) = false) → i ≠ .captSvc → WeaklyFair fairStates
      fairOps i := fun i hi _ n hn => by simpa [hi] using hn (n + 1) (by omega)
  refine ⟨⟨?_, ?_, ?_, ?_, ?_⟩, by decide, ?_⟩
  · intro n
    match n with
    | 0 => rfl
    | 1 => rfl
    | _ + 2 => rfl
  · intro n hn
    match n with
    | 0 => exact ⟨0, le_rfl, rfl⟩
    | 1 => exact absurd (hn 1 le_rfl) (by decide)
    | k + 2 => exact absurd (hn (k + 2) le_rfl) (by show ¬ enabled .captSvc askingFor = true; decide)
  all_goals first
    | (apply never _ _ (by decide)
       intro n
       match n with
       | 0 => decide
       | _ + 1 => rfl)
    | (intro m _
       match m with
       | 0 => decide
       | _ + 1 => simp [fairOps])

/-! Witnesses of the step lemmas behind the claims over runs. -/

/-- One wrap is counted and pending, the capture of a rising edge too, and the next record is a TICK. -/
theorem test_witness_HistoryInvariantIsKeptByStep :
    HistoryInv (facing 0x0100 bothRaised) { History.start with wraps := 1 } ∧
    ∃ t, step (facing 0x0100 bothRaised) = .next t :=
  ⟨{ acc_eq := by decide
     services_le := by decide
     latched := by decide }, ⟨_, rfl⟩⟩

/-- The state of the race: a wrap one tick ago, an edge now, and its service next. -/
def raceState : State :=
  { counting 1 with ovfPending := true, icf := true, icr := 1, pin := true, trace := [⟨0x1100, none⟩] }

/-- Its history: one wrap, before the edge. -/
def raceHistory : History :=
  { History.start with wraps := 1, sinceFlag := 1, wrapsAtLatch := 1 }

theorem test_witness_LatencyInvariantIsKeptByStep :
    LatInv raceState raceHistory ∧ PCapt raceState raceHistory ∧
    ∃ t, step raceState = .next t ∧ POvf t (raceHistory.after raceState) ∧ t.curRise = 1025 :=
  ⟨{ inv :=
      { tcnt_lt := by decide
        icr_lt := by decide
        ovfIe_eq := rfl
        captIe_eq := rfl
        clkSel_legal := .inr (by decide)
        running_clock := by decide
        tickTime_legal := .inl rfl
        ovfCb_legal := fun _ h => nomatch h
        captCb_legal := fun _ h => nomatch h
        ctxOvf_registered := by decide
        ctxCapt_registered := by decide }
     history :=
      { acc_eq := by decide
        services_le := by decide
        latched := by decide }
     no_lost_wrap := by decide
     since_flag := by decide
     p_ovf := by decide
     since_latch := by decide
     acc_at_latch := by decide
     curRise_le := by decide
     fall_le := by decide
     rises_ordered := by decide }, by decide, _, rfl, by decide, by decide⟩

/-- Before START, with an edge next. -/
theorem test_witness_BeforeStartIsKeptUntilStart :
    BeforeStart (facing 0x0201 start) ∧ (∃ t, step (facing 0x0201 start) = .next t) ∧
    nextInstr (facing 0x0201 start) ≠ some .start ∧ HasStep (.edge .rising) start :=
  ⟨⟨rfl, rfl, rfl, rfl, rfl, rfl, rfl, rfl, rfl, rfl, rfl⟩, ⟨_, rfl⟩, by decide, ⟨_, rfl⟩⟩

theorem test_witness_CaptureRequestStaysRaised :
    irqCapt bothRaised = true ∧ (∃ t, exec .tick bothRaised = .next t) ∧ Instr.tick ≠ .captSvc ∧
    Instr.tick ≠ .stop :=
  ⟨by decide, ⟨_, rfl⟩, by decide, by decide⟩

end Sys2Proof.Tests
end

section
/-! SUPPORT. An operation has a step exactly where it is enabled (R10, R65, R103). -/

namespace Sys2Proof.Machine

/-! ### Stepping and enabling -/

/-- Every meaning has the one shape of R65: the operation's own agent waits for the operation's own condition. -/
theorem exec_eq_whenEnabled (i : Instr) (s : State) :
    ∃ t, exec i s = whenEnabled i.agent (enabled i s) t := by
  cases i <;> exact ⟨_, rfl⟩

theorem hasStep_iff_enabled (i : Instr) (s : State) : HasStep i s ↔ enabled i s = true := by
  obtain ⟨t, ht⟩ := exec_eq_whenEnabled i s
  simp [HasStep, ht, whenEnabled_eq_next]

theorem exec_of_not_enabled {i : Instr} {s : State} (h : enabled i s = false) :
    exec i s = .fault (.notEnabled i.agent) := by
  obtain ⟨t, ht⟩ := exec_eq_whenEnabled i s
  rw [ht, h, whenEnabled_false]

/-- Settles O32: every meaning is `whenEnabled` of the operation's agent and enabling condition. -/
theorem stepsExactlyWhenEnabled : Obligations.StepsExactlyWhenEnabled :=
  fun i s => ⟨hasStep_iff_enabled i s, exec_of_not_enabled⟩

end Sys2Proof.Machine
end

section
/-! SUPPORT. The invariant holds at reset, and each operation of the state keeps it, hence every step does
(R37, R42, R43). -/

namespace Sys2Proof.Machine

variable {s t : State}

/-! ### Reset -/

theorem inv_resetWith (p : Params) : Inv (State.resetWith p) where
  tcnt_lt := Nat.zero_lt_of_lt (two_le_modulus p)
  icr_lt := Nat.zero_lt_of_lt (two_le_modulus p)
  ovfIe_eq := rfl
  captIe_eq := rfl
  clkSel_legal := .inl rfl
  running_clock := nofun
  tickTime_legal := .inl rfl
  ovfCb_legal := nofun
  captCb_legal := nofun
  ctxOvf_registered := nofun
  ctxCapt_registered := nofun

/-! ### Updates of fields the invariant does not read -/

theorem inv_withTrace (tr : List OpRecord) (hi : Inv s) : Inv { s with trace := tr } := { hi with }

theorem inv_emit (l : Label) (hi : Inv s) : Inv (emit l s) := { hi with }

theorem inv_refuse (r : RefuseReason) (hi : Inv s) : Inv (refuse r s) := { hi with }

theorem inv_movePin (k : EdgeKind) (hi : Inv s) : Inv (movePin k s) := { hi with }

theorem inv_serviceOverflow (hi : Inv s) : Inv (serviceOverflow s) := { hi with }

theorem inv_rearmCapture (hi : Inv s) : Inv (rearmCapture s) := { hi with }

theorem inv_storeTimestamp (e : EdgeKind) (ts : U64) (hi : Inv s) : Inv (storeTimestamp e ts s) := by
  cases e with
  | rising => exact { hi with }
  | falling => exact { hi with }

/-! ### The counter and its capture -/

/-- Below the top the counter advances with no wrap of its 16 bits, since M is at most 2^16. -/
theorem advanceCounter_tcnt_lt (h : s.tcnt.toNat < s.params.modulus) :
    (advanceCounter s).tcnt.toNat < s.params.modulus := by
  have hM : s.params.modulus ≤ 65536 := modulus_le s.params
  rw [advanceCounter_tcnt]
  split
  · exact Nat.zero_lt_of_lt h
  · next hTop =>
    have hne : s.tcnt.toNat ≠ s.params.modulus - 1 := mt (counterAtTop_iff s).2 hTop
    have hadd : (s.tcnt + 1).toNat = (s.tcnt.toNat + 1) % 65536 := BitVec.toNat_add _ _
    omega

/-- The counter and its flag are all that a TICK writes. -/
theorem advanceCounter_frame (s : State) : advanceCounter s =
    { s with tcnt := (advanceCounter s).tcnt, ovfPending := (advanceCounter s).ovfPending } := by
  unfold advanceCounter
  split <;> rfl

theorem inv_advanceCounter (hi : Inv s) : Inv (advanceCounter s) := by
  rw [advanceCounter_frame]
  exact { hi with tcnt_lt := advanceCounter_tcnt_lt hi.tcnt_lt }

theorem inv_latchCapture (hi : Inv s) : Inv (latchCapture s) := { hi with icr_lt := hi.tcnt_lt }

/-! ### Callbacks -/

theorem inv_enterContext {l : IrqLevel} {h : Handle} (hcb : callbackOf l s = some h) (hi : Inv s) :
    Inv (setContext l true s) := by
  have hreg : callbackOf l s ≠ none := by simp [hcb]
  cases l with
  | overflow => exact { hi with ctxOvf_registered := fun _ => hreg }
  | capture => exact { hi with ctxCapt_registered := fun _ => hreg }

theorem inv_enterCallback (l : IrqLevel) (hi : Inv s) : Inv (enterCallback l s) := by
  obtain ⟨-, e⟩ | ⟨h, hcb, e⟩ := enterCallback_cases l s <;> rw [e]
  · exact inv_emit _ hi
  · exact inv_emit _ (inv_enterContext hcb hi)

theorem inv_returnFromCallback (l : IrqLevel) (hi : Inv s) : Inv (returnFromCallback l s) := by
  cases l with
  | overflow => exact { hi with ctxOvf_registered := nofun }
  | capture => exact { hi with ctxCapt_registered := nofun }

theorem inv_setCallback (l : IrqLevel) {n : Nat} {h : Handle} (key : handleOf s.params n = some h) (hi : Inv s) :
    Inv (setCallback l h s) := by
  have hlegal : ∀ h', some h = some h' → ∃ n, handleOf s.params n = some h' := by
    rintro _ ⟨⟩
    exact ⟨n, key⟩
  cases l with
  | overflow => exact { hi with ovfCb_legal := hlegal, ctxOvf_registered := nofun }
  | capture => exact { hi with captCb_legal := hlegal, ctxCapt_registered := nofun }

/-! ### Configuration and control -/

theorem running_of_idle (idle : configBusy s = false) : s.running = false := by
  simp_all [configBusy]

theorem inv_deselectClock (idle : configBusy s = false) (hi : Inv s) : Inv { s with clkSel := 0 } :=
  { hi with
    clkSel_legal := .inl rfl
    running_clock := fun hrun => absurd hrun (by simp [running_of_idle idle]) }

/-- A prescaler index that is a key fits the eight bits of CLK_SEL. -/
theorem toNat_ofNat_key {p d : Nat} {pa : Params} (key : divisorOf pa p = some d) : (BitVec.ofNat 8 p).toNat = p := by
  have := key_range_of_mapAt key
  simp only [BitVec.toNat_ofNat]
  omega

theorem inv_selectClock {p d : Nat} (w : Time) (idle : configBusy s = false) (key : divisorOf s.params p = some d)
    (hi : Inv s) : Inv (selectClock p d w s) :=
  { hi with
    clkSel_legal := .inr (by simp [-BitVec.toNat_ofNat, toNat_ofNat_key key, key])
    running_clock := fun hrun => absurd hrun (by simp [running_of_idle idle])
    tickTime_legal := .inr ⟨p, d, key, rfl⟩ }

theorem inv_setEnables_true (clock : s.clkSel ≠ 0) (hi : Inv s) : Inv (setEnables true s) :=
  { hi with ovfIe_eq := rfl, captIe_eq := rfl, running_clock := fun _ => clock }

theorem inv_setEnables_false (hi : Inv s) : Inv (setEnables false s) :=
  { hi with ovfIe_eq := rfl, captIe_eq := rfl, running_clock := nofun }

/-! ### Every step -/

/-- What a step can do: it takes a record off the trace, and takes its operation or refuses it. -/
theorem step_taken (h : step s = .next t) : ∃ rest,
    (∃ i, Taken { s with trace := rest } i t) ∨ ∃ e, t = refuse e { s with trace := rest } := by
  obtain ⟨_, rest, -, ⟨i, -, -, hexec⟩ | ⟨e, -, -, ht⟩⟩ := step_cases h
  · exact ⟨rest, .inl ⟨i, exec_taken hexec⟩⟩
  · exact ⟨rest, .inr ⟨e, ht⟩⟩

theorem inv_of_taken {i : Instr} (h : Taken s i t) (hi : Inv s) : Inv t := by
  cases h with
  | tick => exact inv_emit _ (inv_advanceCounter hi)
  | edgeArmed => exact inv_emit _ (inv_latchCapture (inv_movePin _ hi))
  | edgeUnarmed => exact inv_emit _ (inv_movePin _ hi)
  | edgeMiss => exact inv_emit _ (inv_movePin _ hi)
  | ovfSvc => exact inv_enterCallback _ (inv_serviceOverflow hi)
  | captSvc => exact inv_enterCallback _ (inv_storeTimestamp _ _ (inv_rearmCapture hi))
  | ovfCbRet => exact inv_returnFromCallback _ hi
  | captCbRet => exact inv_returnFromCallback _ hi
  | configBusy => exact inv_refuse _ hi
  | configNoClock _ idle => exact inv_emit _ (inv_deselectClock idle hi)
  | configBadPrescaler => exact inv_refuse _ hi
  | configClock _ idle _ key => exact inv_emit _ (inv_selectClock _ idle key hi)
  | startNoClock => exact inv_emit _ hi
  | start _ clock => exact inv_emit _ (inv_setEnables_true clock hi)
  | stop => exact inv_emit _ (inv_setEnables_false hi)
  | setOvfCbNull => exact inv_emit _ hi
  | setOvfCbUnknown => exact inv_refuse _ hi
  | setOvfCb _ _ key => exact inv_emit _ (inv_setCallback _ key hi)
  | setCaptCbNull => exact inv_emit _ hi
  | setCaptCbUnknown => exact inv_refuse _ hi
  | setCaptCb _ _ key => exact inv_emit _ (inv_setCallback _ key hi)
  | getTickTime => exact inv_emit _ hi
  | getCaptureWindow => exact inv_emit _ hi
  | getDutyAndPeriod => exact inv_emit _ hi

/-- Settles O46: a step pops a record, which the invariant does not see, and then takes an operation or refuses
the record; both keep it. -/
theorem invariantIsKeptByStep : Obligations.InvariantIsKeptByStep := by
  intro s t hi h
  obtain ⟨rest, ⟨_, htaken⟩ | ⟨_, rfl⟩⟩ := step_taken h
  · exact inv_of_taken htaken (inv_withTrace rest hi)
  · exact inv_refuse _ (inv_withTrace rest hi)

/-- Settles O45: the loaded trace is a field the invariant does not read. -/
theorem invariantHoldsAtReset : Obligations.InvariantHoldsAtReset :=
  ⟨inv_resetWith _, fun p tr => inv_withTrace tr (inv_resetWith p)⟩

end Sys2Proof.Machine
end

section
/-! SUPPORT. Which operations write which part of the state (R36, R52): each lemma names the writers and leaves the
rest of the steps to the frame rules of Laws/State. -/

namespace Sys2Proof.Machine

variable {i : Instr} {s t : State}

/-! ### Flags -/

theorem ovfPending_of_taken (h : Taken s i t) : t.ovfPending = s.ovfPending ∨
    (i = .tick ∧ t.ovfPending = true) ∨ (i = .ovfSvc ∧ t.ovfPending = false) := by
  cases h with
  | tick =>
    cases htop : counterAtTop s with
    | true => exact .inr (.inl ⟨rfl, by simp [advanceCounter_ovfPending, htop]⟩)
    | false => exact .inl (by simp [advanceCounter_ovfPending, htop])
  | ovfSvc => exact .inr (.inr ⟨rfl, by simp⟩)
  | _ => exact .inl (by simp)

theorem icf_of_taken (h : Taken s i t) : t.icf = s.icf ∨
    (i = .edge s.edgeSel ∧ t.icf = true) ∨ (i = .captSvc ∧ t.icf = false) := by
  cases h with
  | edgeArmed _ armed => exact .inr (.inl ⟨by rw [armed], by simp⟩)
  | captSvc => exact .inr (.inr ⟨rfl, by simp⟩)
  | _ => exact .inl (by simp)

theorem edgeSel_of_taken (h : Taken s i t) : t.edgeSel ≠ s.edgeSel ↔ i = .captSvc := by
  cases h with
  | captSvc => simp [otherEdge_ne]
  | _ => simp

/-- START and STOP alone write the enables, all three together (R96, R97). -/
theorem enables_of_taken (h : Taken s i t) :
    (t.running = s.running ∧ t.ovfIe = s.ovfIe ∧ t.captIe = s.captIe) ∨
    (i = .start ∧ t.running = true ∧ t.ovfIe = true ∧ t.captIe = true) ∨
    (i = .stop ∧ t.running = false ∧ t.ovfIe = false ∧ t.captIe = false) := by
  cases h with
  | start => exact .inr (.inl ⟨rfl, rfl, rfl, rfl⟩)
  | stop => exact .inr (.inr ⟨rfl, rfl, rfl, rfl⟩)
  | _ => exact .inl (by simp)

theorem ctxOvf_of_taken (h : Taken s i t) : t.ctxOvf = s.ctxOvf ∨
    (i = .ovfSvc ∧ t.ctxOvf = true ∧ s.ovfCb ≠ none) ∨ (i = .ovfCbRet ∧ t.ctxOvf = false) := by
  cases h with
  | ovfSvc =>
    cases hcb : s.ovfCb with
    | none => exact .inl (by simp [hcb])
    | some => exact .inr (.inl ⟨rfl, by simp [hcb], nofun⟩)
  | ovfCbRet => exact .inr (.inr ⟨rfl, rfl⟩)
  | _ => exact .inl (by simp)

theorem ctxCapt_of_taken (h : Taken s i t) : t.ctxCapt = s.ctxCapt ∨
    (i = .captSvc ∧ t.ctxCapt = true ∧ s.captCb ≠ none) ∨ (i = .captCbRet ∧ t.ctxCapt = false) := by
  cases h with
  | captSvc =>
    cases hcb : s.captCb with
    | none => exact .inl (by simp [hcb])
    | some => exact .inr (.inl ⟨rfl, by simp [hcb], nofun⟩)
  | captCbRet => exact .inr (.inr ⟨rfl, rfl⟩)
  | _ => exact .inl (by simp)

/-! ### Registers -/

theorem acc_of_taken (h : Taken s i t) : t.acc = s.acc ∨ i = .ovfSvc := by
  cases h with
  | ovfSvc => exact .inr rfl
  | _ => exact .inl (by simp)

/-- The timestamp slots: a rising capture shifts its own two, a falling one writes its own (R75). -/
theorem slots_of_taken (h : Taken s i t) :
    (t.curRise = s.curRise ∧ t.prevRise = s.prevRise ∧ t.fall = s.fall) ∨
    (i = .captSvc ∧ s.edgeSel = .rising ∧ t.prevRise = s.curRise ∧ t.fall = s.fall) ∨
    (i = .captSvc ∧ s.edgeSel = .falling ∧ t.curRise = s.curRise ∧ t.prevRise = s.prevRise) := by
  cases h with
  | captSvc =>
    cases hk : s.edgeSel with
    | rising => exact .inr (.inl ⟨rfl, rfl, by simp, by simp⟩)
    | falling => exact .inr (.inr ⟨rfl, rfl, by simp, by simp⟩)
  | _ => exact .inl (by simp)

theorem tcnt_of_taken (h : Taken s i t) : t.tcnt = s.tcnt ∨ i = .tick := by
  cases h with
  | tick => exact .inr rfl
  | _ => exact .inl (by simp)

theorem icr_of_taken (h : Taken s i t) : t.icr = s.icr ∨ (i = .edge s.edgeSel ∧ t.icr = s.tcnt) := by
  cases h with
  | edgeArmed _ armed => exact .inr ⟨by rw [armed], by simp⟩
  | _ => exact .inl (by simp)

theorem pin_of_taken (h : Taken s i t) : t.pin = s.pin ∨ ∃ k, i = .edge k ∨ i = .edgeMiss k := by
  cases h with
  | edgeArmed | edgeUnarmed => exact .inr ⟨_, .inl rfl⟩
  | edgeMiss => exact .inr ⟨_, .inr rfl⟩
  | _ => exact .inl (by simp)

/-- CONFIG alone writes the clock registers, and with NO_CLOCK only CLK_SEL (R94, R95). -/
theorem clock_of_taken (h : Taken s i t) :
    (t.clkSel = s.clkSel ∧ t.windowTicks = s.windowTicks ∧ t.tickTime = s.tickTime) ∨
    (∃ w, i = .config 0 w ∧ t.windowTicks = s.windowTicks ∧ t.tickTime = s.tickTime) ∨
    (∃ p w, i = .config p w ∧ p ≠ 0) := by
  cases h with
  | configNoClock => exact .inr (.inl ⟨_, rfl, rfl, rfl⟩)
  | configClock _ _ hp => exact .inr (.inr ⟨_, _, rfl, hp⟩)
  | _ => exact .inl (by simp)

theorem ovfCb_of_taken (h : Taken s i t) : t.ovfCb = s.ovfCb ∨ ∃ n, i = .setOvfCb n ∧ n ≠ 0 := by
  cases h with
  | setOvfCb _ hn => exact .inr ⟨_, rfl, hn⟩
  | _ => exact .inl (by simp)

theorem captCb_of_taken (h : Taken s i t) : t.captCb = s.captCb ∨ ∃ n, i = .setCaptCb n ∧ n ≠ 0 := by
  cases h with
  | setCaptCb _ hn => exact .inr ⟨_, rfl, hn⟩
  | _ => exact .inl (by simp)

/-! ### The model's own fields -/

theorem trace_of_taken (h : Taken s i t) : t.trace = s.trace := by
  cases h <;> simp

theorem params_of_taken (h : Taken s i t) : t.params = s.params := by
  cases h <;> simp

theorem queryLabel_ne_refused (n : Snapshot) (w : U64) (tt : Time) (e : RefuseReason) :
    queryLabel n w tt ≠ .refused e := by
  unfold queryLabel
  split <;> nofun

theorem enterCallback_label_ne_refused (l : IrqLevel) (s : State) (e : RefuseReason) :
    (enterCallback l s).label ≠ .refused e := by
  obtain ⟨-, e⟩ | ⟨_, -, e⟩ := enterCallback_cases l s <;> rw [e]
  · nofun
  · cases l <;> nofun

/-- The mark and the label of a refusal go together: a refusing step leaves both, any other one neither. -/
theorem refused_of_taken (h : Taken s i t) :
    t.refused = true ↔ s.refused = true ∨ ∃ e, t.label = .refused e := by
  cases h <;> simp [queryLabel_ne_refused, enterCallback_label_ne_refused]

/-! ### The obligations -/

/-- Settles O36: OVF_SVC is not enabled inside the capture callback, and the returns clear a bit, so that CAPT_SVC is
left to enter the second context. -/
theorem onlyCaptureNestsInOverflow : Obligations.OnlyCaptureNestsInOverflow := by
  intro i s t h hovf hcapt
  cases exec_taken h with
  | ovfSvc en =>
    obtain ⟨-, -, -, hout, -⟩ := (ovfSvcEnabled_iff s).1 en
    simp [hout] at hcapt
  | captSvc en =>
    obtain ⟨-, -, hout⟩ := (captSvcEnabled_iff s).1 en
    exact .inr ⟨rfl, by simpa using hovf, hout⟩
  | ovfCbRet => simp at hovf
  | captCbRet => simp at hcapt
  | _ => exact .inl ⟨by simpa using hovf, by simpa using hcapt⟩

/-- Settles O37: the writers of each flag, the three enables sharing theirs. -/
theorem flagsHaveOnlyTheirWriters : Obligations.FlagsHaveOnlyTheirWriters := by
  intro i s t h
  have ht := exec_taken h
  have henables := enables_of_taken ht
  exact ⟨(ovfPending_of_taken ht).resolve_left, (icf_of_taken ht).resolve_left, edgeSel_of_taken ht,
    by tauto, by tauto, by tauto, (ctxOvf_of_taken ht).resolve_left, (ctxCapt_of_taken ht).resolve_left⟩

/-- Settles O38: the writer of each register, the three slots and the three clock registers sharing theirs. -/
theorem registersHaveOnlyTheirWriters : Obligations.RegistersHaveOnlyTheirWriters := by
  intro i s t h
  have ht := exec_taken h
  have hslots := slots_of_taken ht
  have hclock := clock_of_taken ht
  have hsel : t.clkSel ≠ s.clkSel → ∃ p w, i = .config p w := by
    intro hne
    obtain ⟨heq, -⟩ | ⟨w, hi, -⟩ | ⟨p, w, hi, -⟩ := hclock
    · exact absurd heq hne
    · exact ⟨0, w, hi⟩
    · exact ⟨p, w, hi⟩
  exact ⟨(acc_of_taken ht).resolve_left, by tauto, by tauto, by tauto, (tcnt_of_taken ht).resolve_left,
    (icr_of_taken ht).resolve_left, (pin_of_taken ht).resolve_left, hsel, by tauto, by tauto,
    (ovfCb_of_taken ht).resolve_left, (captCb_of_taken ht).resolve_left, trace_of_taken ht⟩

/-- Settles O39: neither taking an operation nor refusing a record writes the parameters. -/
theorem parametersAreNeverWritten : Obligations.ParametersAreNeverWritten := by
  intro s t h
  obtain ⟨_, ⟨_, htaken⟩ | ⟨_, rfl⟩⟩ := step_taken h
  · simpa using params_of_taken htaken
  · rfl

/-- Settles O43: a refused record and a refusing operation set the mark with the label, and nothing clears it. -/
theorem refusedMarkIsSticky : Obligations.RefusedMarkIsSticky := by
  refine ⟨fun _ => rfl, fun s t h => ?_⟩
  obtain ⟨_, ⟨_, htaken⟩ | ⟨_, rfl⟩⟩ := step_taken h
  · simpa using refused_of_taken htaken
  · simp

/-- Settles O60: only CAPT_SVC clears ICF, and only STOP clears CAPT_IE. -/
theorem captureRequestStaysRaised : Obligations.CaptureRequestStaysRaised := by
  intro i s t hreq h hsvc hstop
  have ht := exec_taken h
  obtain ⟨hicf, hie⟩ : s.icf = true ∧ s.captIe = true := by simpa [irqCapt] using hreq
  have hicf' : t.icf = true := by
    obtain heq | ⟨-, hset⟩ | ⟨hi, -⟩ := icf_of_taken ht
    · exact heq.trans hicf
    · exact hset
    · exact absurd hi hsvc
  have hie' : t.captIe = true := by
    obtain ⟨-, -, heq⟩ | ⟨-, -, -, hset⟩ | ⟨hi, -⟩ := enables_of_taken ht
    · exact heq.trans hie
    · exact hset
    · exact absurd hi hstop
  simp [irqCapt, hicf', hie']

end Sys2Proof.Machine
end

section
/-! SUPPORT. What reset leaves, and the invariants of runs there (R42, R122). -/

namespace Sys2Proof.Machine

theorem historyInv_boot (p : Params) (tr : List OpRecord) : HistoryInv (boot p tr) .start where
  acc_eq := by simp [boot, State.resetWith, History.start]
  services_le := Nat.le_refl 0
  latched := nofun

theorem latInv_boot (p : Params) (tr : List OpRecord) : LatInv (boot p tr) .start where
  inv := inv_withTrace tr (inv_resetWith p)
  history := historyInv_boot p tr
  no_lost_wrap := rfl
  since_flag := nofun
  p_ovf := nofun
  since_latch := nofun
  acc_at_latch := nofun
  curRise_le := fun _ => Nat.zero_le _
  fall_le := fun _ => Nat.zero_le _
  rises_ordered := fun _ => Nat.zero_le _

theorem beforeStart_boot (p : Params) (tr : List OpRecord) : BeforeStart (boot p tr) :=
  ⟨rfl, rfl, rfl, rfl, rfl, rfl, rfl, rfl, rfl, rfl, rfl⟩

/-- Settles O44: the reset state is written out in `State.resetWith`. -/
theorem resetLeavesTheTable : Obligations.ResetLeavesTheTable := by
  intro p
  simp [State.resetWith, State.reset]

/-- Settles O59, one lemma per invariant. -/
theorem runInvariantsHoldAtReset : Obligations.RunInvariantsHoldAtReset :=
  fun p tr => ⟨historyInv_boot p tr, latInv_boot p tr, beforeStart_boot p tr⟩

end Sys2Proof.Machine
end

section
/-! SUPPORT. Decoding and encoding are inverse on the records and instructions of the map, and every other record
is refused (R55 to R61, R63). -/

namespace Sys2Proof

/-! ### The fields of a word as numbers -/

theorem toNat_opcField (w : OpWord) : (opcField w).toNat = w.toNat / 256 := by
  simp only [opcField, BitVec.extractLsb'_toNat, Nat.shiftRight_eq_div_pow]
  omega

theorem toNat_argField (w : OpWord) : (argField w).toNat = w.toNat % 256 := by
  simp [argField, BitVec.extractLsb'_toNat]

theorem toNat_wordOf (o a : BitVec 8) : (wordOf o a).toNat = 256 * o.toNat + a.toNat := by
  have hopc := toNat_opcField (wordOf o a)
  have harg := toNat_argField (wordOf o a)
  rw [opcField_wordOf] at hopc
  rw [argField_wordOf] at harg
  omega

/-! ### What a format reserves -/

theorem reserves_N_iff {a : BitVec 8} : Format.N.reserves a = true ↔ a.toNat ≠ 0 := by
  simp [Format.reserves, ← BitVec.toNat_inj]

theorem reserves_K_iff {a : BitVec 8} : Format.K.reserves a = true ↔ 2 ≤ a.toNat := by
  have hbits : (a.extractLsb' 1 7).toNat = a.toNat / 2 := by
    rw [BitVec.extractLsb'_toNat, Nat.shiftRight_eq_div_pow]
    omega
  simp only [Format.reserves, bne_iff_ne, ne_eq, ← BitVec.toNat_inj, hbits, BitVec.ofNat_eq_ofNat, BitVec.toNat_ofNat]
  omega

theorem eq_zero_of_reserves_N {a : BitVec 8} (h : Format.N.reserves a = false) : a = 0 := by
  simpa [Format.reserves] using h

theorem edgeKindOfBit_argOfEdgeKind (k : EdgeKind) : edgeKindOfBit ((argOfEdgeKind k).getLsbD 0) = k := by
  cases k <;> rfl

theorem argOfEdgeKind_edgeKindOfBit {a : BitVec 8} (h : Format.K.reserves a = false) :
    argOfEdgeKind (edgeKindOfBit (a.getLsbD 0)) = a := by
  have hlt : a.toNat < 2 := by
    rw [← Bool.not_eq_true, reserves_K_iff] at h
    omega
  have hbit : a = 0#8 ∨ a = 1#8 := by bv_omega
  rcases hbit with rfl | rfl <;> rfl

/-! ### The decoder, case by case -/

/-- The checks of R60 on a record whose opcode names the operation `o`: its argument byte is not reserved, and W is
absent unless `o` is CONFIG. -/
def OpName.Admits (o : OpName) (r : OpRecord) : Prop :=
  o.format.reserves (argField r.word) = false ∧ (r.window = none ∨ o = .CONFIG)

variable {r : OpRecord} {o : OpName} {i : Instr}

theorem decode_of_admits (hopc : o.opc = opcField r.word) (h : o.Admits r) :
    decode r = .ok (buildInstr o (argField r.word) r.window) := by
  obtain ⟨harg, hwindow⟩ := h
  rcases hwindow with hnone | rfl
  · simp [decode, ← hopc, opNameOf_opc, harg, hnone]
  · simp [decode, ← hopc, opNameOf_opc, harg]

theorem decode_of_not_admits (hopc : o.opc = opcField r.word) (h : ¬ o.Admits r) :
    decode r = .error .reservedArg := by
  simp only [decode, ← hopc, opNameOf_opc]
  cases harg : o.format.reserves (argField r.word) with
  | true => rfl
  | false =>
    obtain ⟨hwindow, hconfig⟩ : r.window ≠ none ∧ o ≠ .CONFIG := by simpa [OpName.Admits, harg] using h
    simp [Option.isSome_iff_ne_none.2 hwindow, hconfig]

theorem decode_of_unmapped (h : ∀ o : OpName, o.opc ≠ opcField r.word) : decode r = .error .reservedOpcode := by
  cases hname : opNameOf (opcField r.word) with
  | none => simp [decode, hname]
  | some o => exact absurd (opc_of_opNameOf hname) (h o)

/-- The only records that decode are the admitted ones of an operation in the map. -/
theorem decode_ok (h : decode r = .ok i) :
    ∃ o : OpName, o.opc = opcField r.word ∧ o.Admits r ∧ i = buildInstr o (argField r.word) r.window := by
  by_cases hmap : ∃ o : OpName, o.opc = opcField r.word
  · obtain ⟨o, hopc⟩ := hmap
    by_cases hadm : o.Admits r
    · rw [decode_of_admits hopc hadm] at h
      exact ⟨o, hopc, hadm, (Except.ok.inj h).symm⟩
    · rw [decode_of_not_admits hopc hadm] at h
      cases h
  · rw [decode_of_unmapped (not_exists.1 hmap)] at h
    cases h

/-! ### The parts of an instruction: mnemonic, argument byte, side operand -/

theorem opName_admits_encode (i : Instr) : i.opName.Admits (encode i) := by
  have hwindow : i.window = none ∨ i.opName = .CONFIG := by
    cases i with
    | config => exact .inr rfl
    | _ => exact .inl rfl
  refine ⟨?_, hwindow⟩
  rw [(Laws.OpcodeField.of_encode i).2]
  cases i with
  | edge k | edgeMiss k => cases k <;> rfl
  | _ => rfl

theorem toNat_ofNat_of_wf {n : Nat} (h : decide (n < 256) = true) : (BitVec.ofNat 8 n).toNat = n :=
  Nat.mod_eq_of_lt (of_decide_eq_true h)

/-- Well-formedness is needed for the index and the slots, of which the argument byte holds the low 8 bits. -/
theorem buildInstr_parts (h : i.WellFormed) : buildInstr i.opName i.arg i.window = i := by
  cases i with
  | edge k => exact congrArg Instr.edge (edgeKindOfBit_argOfEdgeKind k)
  | edgeMiss k => exact congrArg Instr.edgeMiss (edgeKindOfBit_argOfEdgeKind k)
  | config p w => exact congrArg (Instr.config · w) (toNat_ofNat_of_wf h)
  | setOvfCb n => exact congrArg Instr.setOvfCb (toNat_ofNat_of_wf h)
  | setCaptCb n => exact congrArg Instr.setCaptCb (toNat_ofNat_of_wf h)
  | _ => rfl

theorem wellFormed_buildInstr (o : OpName) (a : BitVec 8) (w : Option Time) : (buildInstr o a w).WellFormed := by
  cases o with
  | CONFIG | SET_OVF_CB | SET_CAPT_CB => exact decide_eq_true a.isLt
  | _ => rfl

theorem opName_buildInstr (o : OpName) (a : BitVec 8) (w : Option Time) : (buildInstr o a w).opName = o := by
  cases o <;> rfl

theorem arg_buildInstr {a : BitVec 8} (w : Option Time) (h : o.format.reserves a = false) :
    (buildInstr o a w).arg = a := by
  cases o with
  | EDGE | EDGE_MISS => exact argOfEdgeKind_edgeKindOfBit h
  | CONFIG | SET_OVF_CB | SET_CAPT_CB => exact BitVec.ofNat_toNat 8 a
  | _ => exact (eq_zero_of_reserves_N h).symm

theorem window_buildInstr (a : BitVec 8) {w : Option Time} (h : w = none ∨ o = .CONFIG) :
    (buildInstr o a w).window = w := by
  rcases h with rfl | rfl
  · cases o <;> rfl
  · rfl

/-! ### The round trips -/

/-- Settles O5: the record has the instruction's opcode, it passes the checks, and its operands build the
instruction again. -/
theorem decodeOfEncode : Obligations.DecodeOfEncode := by
  intro i hwf
  obtain ⟨hopc, harg⟩ := Laws.OpcodeField.of_encode i
  rw [decode_of_admits hopc.symm (opName_admits_encode i), harg]
  exact congrArg Except.ok (buildInstr_parts hwf)

/-- Settles O6: the checks of R60 let through exactly the argument bytes and side operands that the encoder
writes. -/
theorem encodeOfDecode : Obligations.EncodeOfDecode := by
  intro r i h
  obtain ⟨o, hopc, ⟨harg, hwindow⟩, rfl⟩ := decode_ok h
  refine ⟨wellFormed_buildInstr _ _ _, ?_⟩
  rw [encode, opName_buildInstr, arg_buildInstr _ harg, window_buildInstr _ hwindow, hopc, wordOf_fields]

/-! ### Reserved words -/

theorem opc_eq_opcField_iff : o.opc = opcField r.word ↔ o.opc.toNat = r.word.toNat / 256 := by
  rw [← BitVec.toNat_inj, toNat_opcField]

theorem exists_opName_N : ∀ n ∈ [0x01, 0x10, 0x11, 0x12, 0x13, 0x21, 0x22, 0x25, 0x26, 0x27],
    ∃ o ∈ OpName.all, o.opc.toNat = n ∧ o.format = .N := by decide

theorem exists_opName_K : ∀ n ∈ [0x02, 0x03], ∃ o ∈ OpName.all, o.opc.toNat = n ∧ o.format = .K := by decide

theorem exists_opName_without_window :
    ∀ n ∈ [0x01, 0x02, 0x03, 0x10, 0x11, 0x12, 0x13, 0x21, 0x22, 0x23, 0x24, 0x25, 0x26, 0x27],
      ∃ o ∈ OpName.all, o.opc.toNat = n ∧ o ≠ .CONFIG := by decide

theorem opc_in_map (o : OpName) : (0x01 ≤ o.opc.toNat ∧ o.opc.toNat ≤ 0x03) ∨
    (0x10 ≤ o.opc.toNat ∧ o.opc.toNat ≤ 0x13) ∨ (0x20 ≤ o.opc.toNat ∧ o.opc.toNat ≤ 0x27) := by
  cases o <;> decide

/-- Settles O4: no operation has an opcode in a reserved range, and in each other case the operation that the
opcode names does not admit the record. -/
theorem reservedWordsAreRefused : Obligations.ReservedWordsAreRefused := by
  intro r
  refine ⟨fun hopc => ?_, fun hopc harg => ?_, fun hopc harg => ?_, fun hopc hwindow => ?_⟩
  · refine decode_of_unmapped fun o ho => ?_
    rw [opc_eq_opcField_iff] at ho
    have hmap := opc_in_map o
    omega
  · obtain ⟨o, -, ho, hformat⟩ := exists_opName_N _ hopc
    refine decode_of_not_admits (opc_eq_opcField_iff.2 ho) fun ⟨hadm, _⟩ => ?_
    rw [hformat, reserves_N_iff.2 (by rwa [toNat_argField])] at hadm
    cases hadm
  · obtain ⟨o, -, ho, hformat⟩ := exists_opName_K _ hopc
    refine decode_of_not_admits (opc_eq_opcField_iff.2 ho) fun ⟨hadm, _⟩ => ?_
    rw [hformat, reserves_K_iff.2 (by rwa [toNat_argField])] at hadm
    cases hadm
  · obtain ⟨o, -, ho, hconfig⟩ := exists_opName_without_window _ hopc
    exact decode_of_not_admits (opc_eq_opcField_iff.2 ho) fun ⟨_, hadm⟩ => hadm.elim hwindow hconfig

/-! ### Words of the map -/

theorem encode_config {p : Nat} (w : Option Time) (h : p < 256) :
    encode (.config p w) = ⟨BitVec.ofNat 16 (0x2000 + p), w⟩ := by
  refine congrArg (OpRecord.mk · w) (BitVec.eq_of_toNat_eq ?_)
  rw [toNat_wordOf]
  simp only [Instr.opName, Instr.arg, OpName.opc, BitVec.ofNat_eq_ofNat, BitVec.toNat_ofNat]
  omega

/-- Settles O7: each word is the encoding of its operation. -/
theorem writtenWordsDecode : Obligations.WrittenWordsDecode := by
  refine ⟨decodeOfEncode .tick rfl, decodeOfEncode (.edge .rising) rfl, decodeOfEncode (.edge .falling) rfl,
    decodeOfEncode (.edgeMiss .rising) rfl, decodeOfEncode .ovfSvc rfl, decodeOfEncode .captSvc rfl,
    decodeOfEncode (.setCaptCb 1) rfl, decodeOfEncode .getDutyAndPeriod rfl, fun w => ?_⟩
  have hword : encode (.config 3 (some w)) = ⟨0x2003, some w⟩ := encode_config (some w) (by decide)
  rw [← hword]
  exact decodeOfEncode (.config 3 (some w)) rfl

theorem encode_word_div_256 (i : Instr) : (encode i).word.toNat / 256 = i.opName.opc.toNat := by
  rw [← toNat_opcField, (Laws.OpcodeField.of_encode i).1]

/-- The upper half of the opcode byte that stands for an agent (R59). -/
def Agent.opcHalf : Agent → Nat
  | .environment => 0
  | .overflowLevel | .overflowCallback | .captureLevel | .captureCallback => 1
  | .foreground => 2

theorem encode_word_div_4096 (i : Instr) : (encode i).word.toNat / 4096 = i.agent.opcHalf := by
  have hhalf : (encode i).word.toNat / 4096 = i.opName.opc.toNat / 16 := by
    rw [← encode_word_div_256]
    omega
  rw [hhalf]
  cases i <;> simp [Instr.opName, OpName.opc, Instr.agent, Agent.opcHalf]

/-- Settles O8: the opcode is the one of the mnemonic, and its upper half depends on the agent only. -/
theorem opcodeMapNamesAgent : Obligations.OpcodeMapNamesAgent := by
  intro i
  rw [encode_word_div_256, encode_word_div_4096]
  constructor
  · cases i <;> rfl
  · cases i.agent <;> decide

end Sys2Proof
end

section
/-! SUPPORT. A step decodes the record at the head of its trace (R56, R60), and the assembly text's
pseudo-operations expand to records (R64). -/

namespace Sys2Proof.Machine

/-- Settles O1: the fetch takes the record off the trace, and what decodes is executed. -/
theorem stepRunsDecodedOperation : Obligations.StepRunsDecodedOperation := by
  intro s r rest i htrace hdecode
  simp only [step, fetchRecord_cons htrace, hdecode]

/-- Settles O2: the fetch takes the record off the trace, and what does not decode is refused. -/
theorem stepRefusesUndecodedRecord : Obligations.StepRefusesUndecodedRecord := by
  intro s r rest e htrace hdecode
  simp only [step, fetchRecord_cons htrace, hdecode, refuse]

theorem assemble_ticks (n : Nat) : assemble [.ticks n] = List.replicate n (encode .tick) := by
  simp [assemble, AsmLine.expand]

/-- Settles O9: a line of one operation assembles to the record of that operation. -/
theorem pseudoOperationsExpand : Obligations.PseudoOperationsExpand :=
  ⟨assemble_ticks, rfl, rfl, fun _ hp => congrArg (fun r => [r]) (encode_config none hp), rfl⟩

end Sys2Proof.Machine
end

section
/-! SUPPORT. The invariant of a state with its history, operation by operation and along runs (R70, R79, R126). -/

namespace Sys2Proof.Machine

variable {i : Instr} {s t : State} {h : History}

/-! ### The history after a step -/

theorem History.after_of_nextInstr (hnext : nextInstr s = some i) : h.after s = h.take i s := by
  simp [History.after, hnext]

theorem History.after_of_refused (hnext : nextInstr s = none) : h.after s = h := by
  simp [History.after, hnext]

theorem History.take_withTrace (i : Instr) (s : State) (tr : List OpRecord) :
    h.take i { s with trace := tr } = h.take i s := by
  cases i <;> rfl

theorem History.edge_armed : h.edge s.edgeSel s =
    { h with sinceLatch := 0, wrapsAtLatch := h.wraps, latchedKind := s.edgeSel } :=
  if_pos rfl

theorem History.edge_unarmed {k : EdgeKind} (unarmed : k ≠ s.edgeSel) : h.edge k s = h :=
  if_neg unarmed

/-! ### Each update of the state -/

theorem toNat_add64_modulus64 (a : U64) (m : Nat) : (add64 a (modulus64 m)).toNat = (a.toNat + m) % 2 ^ 64 := by
  simp [add64, modulus64]

/-- The invariant reads five fields of the state. -/
theorem historyInv_of_frame (hframe : t.acc = s.acc ∧ t.ovfPending = s.ovfPending ∧ t.icf = s.icf ∧
    t.edgeSel = s.edgeSel ∧ t.params = s.params) (hi : HistoryInv s h) : HistoryInv t h := by
  obtain ⟨hacc, hpending, hicf, hsel, hparams⟩ := hframe
  exact ⟨by rw [hacc, hparams]; exact hi.acc_eq, by rw [hpending]; exact hi.services_le,
    by rw [hicf, hsel]; exact hi.latched⟩

/-- A wrap that sets the flag is counted on the same step. -/
theorem historyInv_advanceCounter (hi : HistoryInv s h) : HistoryInv (advanceCounter s) (h.tick s) where
  acc_eq := by simpa [History.tick] using hi.acc_eq
  services_le := by
    have hle := hi.services_le
    cases htop : counterAtTop s with
    | true =>
      simp only [History.tick, advanceCounter_ovfPending, htop, Bool.or_true, Bool.toNat_true, if_true]
      omega
    | false => simpa [History.tick, advanceCounter_ovfPending, htop] using hle
  latched := by simpa [History.tick] using hi.latched

theorem historyInv_latchCapture (hi : HistoryInv s h) : HistoryInv (latchCapture s) (h.edge s.edgeSel s) := by
  rw [History.edge_armed]
  exact ⟨hi.acc_eq, hi.services_le, fun _ => rfl⟩

theorem historyInv_rearmCapture (hi : HistoryInv s h) : HistoryInv (rearmCapture s) h :=
  { hi with latched := nofun }

/-- The service takes its wrap over from the flag, and M is added where the count goes up by one. -/
theorem historyInv_serviceOverflow (hpending : s.ovfPending = true) (hi : HistoryInv s h) :
    HistoryInv (serviceOverflow s) (h.take .ovfSvc s) where
  acc_eq := by
    rw [serviceOverflow_acc, toNat_add64_modulus64, hi.acc_eq, Nat.mod_add_mod, ← Nat.succ_mul]
    rfl
  services_le := by simpa [History.take, hpending] using hi.services_le
  latched := hi.latched

/-! ### Every step -/

theorem historyInv_of_taken (ht : Taken s i t) (hi : HistoryInv s h) : HistoryInv t (h.take i s) := by
  cases ht with
  | tick => exact historyInv_of_frame (by simp) (historyInv_advanceCounter hi)
  | edgeArmed _ armed =>
    subst armed
    exact historyInv_of_frame (by simp) (historyInv_latchCapture hi)
  | edgeUnarmed _ unarmed =>
    rw [History.take, History.edge_unarmed unarmed]
    exact historyInv_of_frame (by simp) hi
  | ovfSvc en =>
    obtain ⟨hpending, -⟩ := (ovfSvcEnabled_iff s).1 en
    exact historyInv_of_frame (by simp) (historyInv_serviceOverflow hpending hi)
  | captSvc => exact historyInv_of_frame (by simp) (historyInv_rearmCapture hi)
  | _ => exact historyInv_of_frame (by simp) hi

/-- Settles O56: only TICK, EDGE, OVF_SVC and CAPT_SVC write what the invariant reads, and a refused record counts
nothing. -/
theorem historyInvariantIsKeptByStep : Obligations.HistoryInvariantIsKeptByStep := by
  intro s t h hi hstep
  obtain ⟨_, rest, -, ⟨i, -, hnext, hexec⟩ | ⟨_, -, hnext, rfl⟩⟩ := step_cases hstep
  · rw [History.after_of_nextInstr hnext, ← History.take_withTrace i s rest]
    exact historyInv_of_taken (exec_taken hexec) (historyInv_of_frame (by simp) hi)
  · rw [History.after_of_refused hnext]
    exact historyInv_of_frame (by simp) hi

/-! ### Every run -/

theorem historyInv_of_run {s₀ : State} (h₀ : HistoryInv s₀ .start) (run : Run s₀ s h) : HistoryInv s h := by
  induction run with
  | start => exact h₀
  | more _ hstep ih => exact historyInvariantIsKeptByStep _ _ _ ih hstep

theorem params_of_run {s₀ : State} (run : Run s₀ s h) : s.params = s₀.params := by
  induction run with
  | start => rfl
  | more _ hstep ih => exact (parametersAreNeverWritten _ _ hstep).trans ih

/-- Settles O49: the invariant's accumulator clause along the run, M being the parameter of reset throughout. -/
theorem accumulatorCountsServices : Obligations.AccumulatorCountsServices := by
  intro p tr s h run
  have hparams : s.params = p := params_of_run run
  exact ⟨hparams ▸ (historyInv_of_run (historyInv_boot p tr) run).acc_eq, hparams⟩

end Sys2Proof.Machine
end

section
/-! SUPPORT. The Timestamp Extension Engine: the composed timestamp (R68), the counter (R69), the overflow service
and the return of its callback (R71, R73). -/

namespace Sys2Proof.Machine

variable {s : State}

/-! ### The composed timestamp -/

/-- Settles O17: both sums wrap, and a sum of wrapped sums is the wrapped sum. -/
theorem composeAppliesRaceRule : Obligations.ComposeAppliesRaceRule := by
  intro m acc c ovf
  have hsum : (add64 acc (zext64 c)).toNat = (acc.toNat + c.toNat) % 2 ^ 64 := by
    rw [add64, BitVec.toNat_add, zext64_toNat]
  unfold compose
  by_cases hrace : ovf = true ∧ 2 * c.toNat < m
  · rw [if_pos ((raceApplies_iff m c ovf).2 hrace), if_pos hrace, toNat_add64_modulus64, hsum, Nat.mod_add_mod]
  · rw [if_neg (mt (raceApplies_iff m c ovf).1 hrace), if_neg hrace, hsum, Nat.add_zero]

/-! ### The counter -/

theorem exec_tick_of_running (hrun : s.running = true) : exec .tick s = .next (emit .none (advanceCounter s)) :=
  exec_tick_next.2 ⟨hrun, rfl⟩

/-- Settles O10: the two branches are those of `advanceCounter`. -/
theorem tickAdvancesOrWraps : Obligations.TickAdvancesOrWraps := by
  intro s
  refine ⟨rfl, fun hrun => ?_, fun hstopped => ?_⟩
  · rw [exec_tick_of_running hrun, advanceCounter]
    by_cases htop : s.tcnt.toNat = s.params.modulus - 1
    · rw [if_pos ((counterAtTop_iff s).2 htop), if_pos htop, emit]
    · rw [if_neg (mt (counterAtTop_iff s).1 htop), if_neg htop, emit]
  · simp [hasStep_iff_enabled, enabled, tickEnabled, hstopped]

/-- Below M the counter counts modulo M: at the top it wraps, and below it M ≤ 2^16 keeps the sum in its 16 bits. -/
theorem advanceCounter_tcnt_toNat (hlt : s.tcnt.toNat < s.params.modulus) :
    (advanceCounter s).tcnt.toNat = (s.tcnt.toNat + 1) % s.params.modulus := by
  have hM := modulus_le s.params
  rw [advanceCounter_tcnt]
  split
  · next htop =>
    have hwrap : s.tcnt.toNat + 1 = s.params.modulus := by
      have := (counterAtTop_iff s).1 htop
      omega
    rw [hwrap, Nat.mod_self]
    rfl
  · next htop =>
    have hne := mt (counterAtTop_iff s).2 htop
    have hadd : (s.tcnt + 1).toNat = (s.tcnt.toNat + 1) % 65536 := BitVec.toNat_add _ _
    rw [hadd, Nat.mod_eq_of_lt (by omega), Nat.mod_eq_of_lt (by omega)]

/-- A flag set by this TICK or by the `n` after it is a count that passes M − 1 within `n + 1`. -/
theorem advanceCounter_passes_iff (hlt : s.tcnt.toNat < s.params.modulus) (n : Nat) :
    ((advanceCounter s).ovfPending = true ∨ s.params.modulus ≤ (advanceCounter s).tcnt.toNat + n) ↔
      s.ovfPending = true ∨ s.params.modulus ≤ s.tcnt.toNat + (n + 1) := by
  rw [advanceCounter_ovfPending, advanceCounter_tcnt_toNat hlt, Bool.or_eq_true, counterAtTop_iff]
  by_cases htop : s.tcnt.toNat = s.params.modulus - 1
  · have hpasses : s.params.modulus ≤ s.tcnt.toNat + (n + 1) := by omega
    exact iff_of_true (.inl (.inr htop)) (.inr hpasses)
  · have hmod : (s.tcnt.toNat + 1) % s.params.modulus = s.tcnt.toNat + 1 := Nat.mod_eq_of_lt (by omega)
    rw [hmod, or_iff_left htop, Nat.add_assoc, Nat.add_comm 1 n]

/-- Settles O48, by induction on the number of TICKs: the first leads to a state that again runs below M. -/
theorem counterCountsModuloM : Obligations.CounterCountsModuloM := by
  intro n
  induction n with
  | zero =>
    intro s hrun hlt
    exact ⟨s, rfl, (Nat.mod_eq_of_lt hlt).symm, by simp [hlt], rfl, rfl, rfl, hrun⟩
  | succ n ih =>
    intro s hrun hlt
    obtain ⟨t, hall, htcnt, hovf, hacc, hicr, hicf, hrun'⟩ :=
      ih (emit .none (advanceCounter s)) (by simpa using hrun) (by simpa using advanceCounter_tcnt_lt hlt)
    simp only [emit_tcnt, emit_params, emit_ovfPending, advanceCounter_params] at htcnt hovf
    refine ⟨t, ?_, ?_, ?_, by simpa using hacc, by simpa using hicr, by simpa using hicf, hrun'⟩
    · rw [List.replicate_succ, execAll, exec_tick_of_running hrun]
      exact hall
    · rw [htcnt, advanceCounter_tcnt_toNat hlt, Nat.mod_add_mod, Nat.add_assoc, Nat.add_comm 1 n]
    · rw [hovf, advanceCounter_passes_iff hlt]

/-! ### The overflow service and its callback -/

/-- Settles O13: the service, and then its end with and without a registered callback. -/
theorem overflowServiceAddsModulus : Obligations.OverflowServiceAddsModulus := by
  intro s
  rw [hasStep_iff_enabled, enabled, ← ovfSvcEnabled_iff]
  refine ⟨rfl, fun en => ?_, id⟩
  rw [exec_ovfSvc_next.2 ⟨en, rfl⟩, enterCallback]
  cases hcb : s.ovfCb <;> simp [callbackOf, hcb, serviceOverflow, emit, setContext, notifyLabel, add64, modulus64]

/-- Inside the overflow callback no service of its own level and no foreground operation is enabled. -/
theorem steps_of_ctxOvf {i : Instr} (hctx : s.ctxOvf = true) (hstep : HasStep i s) :
    i.agent = .environment ∨ i = .captSvc ∨ i = .captCbRet ∨ i = .ovfCbRet := by
  have en := (hasStep_iff_enabled i s).1 hstep
  cases i with
  | tick | edge | edgeMiss => exact .inl rfl
  | captSvc => exact .inr (.inl rfl)
  | captCbRet => exact .inr (.inr (.inl rfl))
  | ovfCbRet => exact .inr (.inr (.inr rfl))
  | ovfSvc => simp [enabled, ovfSvcEnabled, hctx] at en
  | _ => simp [enabled, foregroundEnabled, hctx] at en

/-- Settles O14: the return writes one bit, and its condition is its enabling condition. -/
theorem overflowCallbackReturns : Obligations.OverflowCallbackReturns := by
  intro s
  rw [hasStep_iff_enabled, enabled, ← ovfCbRetEnabled_iff]
  exact ⟨rfl, fun en => exec_ovfCbRet_next.2 ⟨en, rfl⟩, id, fun _ => steps_of_ctxOvf⟩

end Sys2Proof.Machine
end

section
/-! SUPPORT. Edge capture: the edges of the input (R77, R78), the capture service (R79, R80) and the return of its
callback (R82). -/

namespace Sys2Proof.Machine

variable {s t : State} {h : History}

/-! ### The edges of the input -/

/-- Settles O11: the level is written for either kind, and the latch is the armed branch. -/
theorem edgeLatchesArmedKind : Obligations.EdgeLatchesArmedKind := by
  intro s k
  rw [hasStep_iff_enabled, enabled, ← edgeEnabled_iff]
  refine ⟨by cases k <;> rfl, fun en => ?_, id⟩
  rw [exec_edge_next.2 ⟨en, rfl⟩, ← levelAfter_eq]
  by_cases armed : k = s.edgeSel
  · rw [if_pos armed, if_pos armed]
    rfl
  · rw [if_neg armed, if_neg armed]
    rfl

/-- Settles O12: what is left of an armed edge without its latch is the level. -/
theorem edgeMissMovesOnlyThePin : Obligations.EdgeMissMovesOnlyThePin := by
  intro s k
  rw [hasStep_iff_enabled, enabled, ← edgeEnabled_iff, ← edgeMissEnabled_iff, ← levelAfter_eq]
  exact ⟨by cases k <;> rfl, fun en => exec_edgeMiss_next.2 ⟨en, rfl⟩, id⟩

/-! ### The capture service and its callback -/

/-- A rising capture shifts the rising slots and arms for a falling edge (R75, R80). -/
theorem storeTimestamp_rising_rearmCapture (hk : s.edgeSel = .rising) (ts : U64) :
    storeTimestamp .rising ts (rearmCapture s) =
      { s with edgeSel := .falling, icf := false, prevRise := s.curRise, curRise := ts } := by
  rw [rearmCapture, hk]
  rfl

/-- A falling capture overwrites the falling slot and arms for a rising edge (R75, R80). -/
theorem storeTimestamp_falling_rearmCapture (hk : s.edgeSel = .falling) (ts : U64) :
    storeTimestamp .falling ts (rearmCapture s) = { s with edgeSel := .rising, icf := false, fall := ts } := by
  rw [rearmCapture, hk]
  rfl

/-- Settles O15: the kind in the pre-state chooses the slots, and the service then ends with or without a registered
callback. -/
theorem captureServiceStoresTimestamp : Obligations.CaptureServiceStoresTimestamp := by
  intro s
  rw [hasStep_iff_enabled, enabled, ← captSvcEnabled_iff]
  refine ⟨rfl, fun en => ?_, id⟩
  rw [exec_captSvc_next.2 ⟨en, rfl⟩, captureTimestamp]
  cases hk : s.edgeSel with
  | rising =>
    simp only [storeTimestamp_rising_rearmCapture hk, enterCallback, callbackOf]
    cases s.captCb <;> rfl
  | falling =>
    simp only [storeTimestamp_falling_rearmCapture hk, enterCallback, callbackOf]
    cases s.captCb <;> rfl

/-- Inside the capture callback no service, no foreground operation and no return of the overflow callback is
enabled. -/
theorem steps_of_ctxCapt {i : Instr} (hctx : s.ctxCapt = true) (hstep : HasStep i s) :
    i.agent = .environment ∨ i = .captCbRet := by
  have en := (hasStep_iff_enabled i s).1 hstep
  cases i with
  | tick | edge | edgeMiss => exact .inl rfl
  | captCbRet => exact .inr rfl
  | ovfSvc => simp [enabled, ovfSvcEnabled, hctx] at en
  | captSvc => simp [enabled, captSvcEnabled, hctx] at en
  | ovfCbRet => simp [enabled, ovfCbRetEnabled, hctx] at en
  | _ => simp [enabled, foregroundEnabled, hctx] at en

/-- Settles O16: the return writes one bit, and that bit is its enabling condition. -/
theorem captureCallbackReturns : Obligations.CaptureCallbackReturns := by
  intro s
  rw [hasStep_iff_enabled, enabled, captCbRetEnabled, ← Bool.not_eq_true]
  exact ⟨rfl, fun en => exec_captCbRet_next.2 ⟨en, rfl⟩, id, fun _ => steps_of_ctxCapt⟩

/-! ### The kind of a pending capture -/

/-- A rising capture leaves FALL alone, and a falling one leaves the two rising slots alone (R75, R80). -/
theorem slots_of_captSvc (hexec : exec .captSvc s = .next t) :
    (s.edgeSel = .rising → t.prevRise = s.curRise ∧ t.fall = s.fall) ∧
    (s.edgeSel = .falling → t.prevRise = s.prevRise ∧ t.curRise = s.curRise) := by
  obtain ⟨-, rfl⟩ := exec_captSvc_next.1 hexec
  exact ⟨fun hk => by simp [hk], fun hk => by simp [hk]⟩

/-- Settles O51: along a run EDGE_SEL names the kind of a pending capture, and the service goes by EDGE_SEL. -/
theorem classificationNamesLatchedEdge : Obligations.ClassificationNamesLatchedEdge := by
  intro p tr s h run hicf
  have hlatched : s.edgeSel = h.latchedKind := (historyInv_of_run (historyInv_boot p tr) run).latched hicf
  rw [← hlatched]
  exact ⟨rfl, fun _ => slots_of_captSvc⟩

end Sys2Proof.Machine
end


section
/-! SUPPORT. The Duty/Period Calculator (R85 to R92): what the query reports, what it does not read, and two queries
around TICKs. -/

namespace Sys2Proof.Machine

variable {s t : State} {n : Snapshot} {w : U64}

/-! ### The reported label -/

/-- R85 and R87, with staleness as a comparison of numbers. -/
theorem queryLabel_eq (n : Snapshot) (w : U64) (tt : Time) : queryLabel n w tt =
    if w < ageOf n then noMeasurement
    else .dutyPeriod (dutyTicks n) (ticksToTime (dutyTicks n) tt) (periodTicks n) (ticksToTime (periodTicks n) tt) := by
  simp only [queryLabel, isStale_iff]

theorem queryLabel_of_fresh (fresh : ageOf n ≤ w) (tt : Time) : queryLabel n w tt =
    .dutyPeriod (dutyTicks n) (ticksToTime (dutyTicks n) tt) (periodTicks n) (ticksToTime (periodTicks n) tt) := by
  rw [queryLabel_eq, if_neg (BitVec.not_lt.2 fresh)]

/-- TCNT enters the report only through its staleness. -/
theorem queryLabel_of_isStale_eq {c : Ctr} (tt : Time) (same : isStale { n with tcnt := c } w = isStale n w) :
    queryLabel { n with tcnt := c } w tt = queryLabel n w tt := by
  rw [queryLabel, queryLabel, same]
  rfl

/-- Settles O18: the meaning of the query is R85 written with names for the age, the duty and the period. -/
theorem queryReportsDutyAndPeriod : Obligations.QueryReportsDutyAndPeriod := by
  intro s
  rw [hasStep_iff_enabled, enabled, ← foregroundEnabled_iff]
  refine ⟨rfl, fun en => ?_, id⟩
  rw [exec_getDutyAndPeriod_next.2 ⟨en, rfl⟩, queryLabel_eq]
  rfl

/-! ### Exact differences -/

/-- An age within 64 bits, of a signal no later than the counter, is the exact difference. -/
theorem ageOf_toNat (hsum : n.acc.toNat + n.tcnt.toNat < 2 ^ 64)
    (hle : n.curRise.toNat ≤ n.acc.toNat + n.tcnt.toNat) :
    (ageOf n).toNat = n.acc.toNat + n.tcnt.toNat - n.curRise.toNat := by
  have hadd : (add64 n.acc (zext64 n.tcnt)).toNat = n.acc.toNat + n.tcnt.toNat := by
    rw [add64, BitVec.toNat_add, zext64_toNat, Nat.mod_eq_of_lt hsum]
  rw [ageOf, sub64, BitVec.toNat_sub_of_le (BitVec.le_def.2 (hadd ▸ hle)), hadd]

/-- With the falling edge between the rising ones the duty counts from the earlier of them (R88). -/
theorem dutyTicks_toNat_of_between (hlow : n.prevRise.toNat ≤ n.fall.toNat) (hhigh : n.fall.toNat < n.curRise.toNat) :
    (dutyTicks n).toNat = n.fall.toNat - n.prevRise.toNat := by
  have hbefore : ¬ n.curRise ≤ n.fall := BitVec.not_le.2 (BitVec.lt_def.2 hhigh)
  rw [dutyTicks, if_neg hbefore, sub64, BitVec.toNat_sub_of_le (BitVec.le_def.2 hlow)]

theorem periodTicks_toNat (hle : n.prevRise.toNat ≤ n.curRise.toNat) :
    (periodTicks n).toNat = n.curRise.toNat - n.prevRise.toNat := by
  rw [periodTicks, sub64, BitVec.toNat_sub_of_le (BitVec.le_def.2 hle)]

/-- Settles O27: the signal is fresh, and no difference of the report wraps. -/
theorem normalCycleIsMeasured : Obligations.NormalCycleIsMeasured := by
  intro s hovf hcapt hcur hwindow hsum hlow hhigh
  have fresh : ageOf (takeSnapshot s) ≤ s.windowTicks := by
    rw [BitVec.le_def, ageOf_toNat hsum hcur]
    exact hwindow
  have hduty : (dutyTicks (takeSnapshot s)).toNat = s.fall.toNat - s.prevRise.toNat :=
    dutyTicks_toNat_of_between hlow hhigh
  have hperiod : (periodTicks (takeSnapshot s)).toNat = s.curRise.toNat - s.prevRise.toNat :=
    periodTicks_toNat (hlow.trans hhigh.le)
  have hquery := (exec_getDutyAndPeriod_next (s := s)).2 ⟨(foregroundEnabled_iff s).2 ⟨hovf, hcapt⟩, rfl⟩
  rw [queryLabel_of_fresh fresh] at hquery
  exact ⟨_, _, _, _, hquery, hduty, hperiod, by omega⟩

/-! ### What the query does not read -/

/-- Settles O29: neither the enabling condition nor the snapshot reads one of the five fields. -/
theorem queryIgnoresPendingFlags : Obligations.QueryIgnoresPendingFlags := by
  intro s pending flag level c e
  cases en : foregroundEnabled s with
  | true =>
    rw [exec_getDutyAndPeriod_next.2 ⟨en, rfl⟩]
    exact exec_getDutyAndPeriod_next.2 ⟨en, rfl⟩
  | false =>
    rw [exec_of_not_enabled (i := .getDutyAndPeriod) (s := s) en]
    exact exec_of_not_enabled (i := .getDutyAndPeriod) en

/-! ### Queries around TICKs -/

theorem execAll_cons_next {i : Instr} {is : List Instr} :
    execAll (i :: is) s = .next t ↔ ∃ m, exec i s = .next m ∧ execAll is m = .next t := by
  rw [execAll]
  cases exec i s <;> simp

/-- TICKs write the counter, its flag and the label, and nothing else. -/
theorem execAll_ticks_frame (k : Nat) (h : execAll (List.replicate k .tick) s = .next t) :
    ∃ c pending l, t = { s with tcnt := c, ovfPending := pending, label := l } := by
  induction k generalizing s with
  | zero =>
    cases h
    exact ⟨t.tcnt, t.ovfPending, t.label, rfl⟩
  | succ k ih =>
    obtain ⟨m, hm, hrest⟩ := execAll_cons_next.1 h
    obtain ⟨-, rfl⟩ := exec_tick_next.1 hm
    obtain ⟨c, pending, l, rfl⟩ := ih hrest
    rw [advanceCounter_frame]
    exact ⟨c, pending, l, rfl⟩

/-- Settles O30: the TICKs leave the slots, the window and the tick time alone, and staleness is equal by premise. -/
theorem repeatedQueriesAgree : Obligations.RepeatedQueriesAgree := by
  intro k s t u v hfirst hticks hsecond same
  obtain ⟨-, rfl⟩ := exec_getDutyAndPeriod_next.1 hfirst
  obtain ⟨c, pending, l, rfl⟩ := execAll_ticks_frame k hticks
  obtain ⟨-, rfl⟩ := exec_getDutyAndPeriod_next.1 hsecond
  exact queryLabel_of_isStale_eq (n := takeSnapshot s) s.tickTime same.symm

end Sys2Proof.Machine
end

section
/-! SUPPORT. Configuration, control and callback registration: what each operation does (R94 to R101), that none of
them reads or writes the engine's fields (R93), and what no step changes (R98, R99, R102). -/

namespace Sys2Proof.Machine

variable {i : Instr} {s t : State}

/-! ### CONFIG -/

/-- Settles O19: one equation of `configure` per clause. -/
theorem configSelectsClockOrRefuses : Obligations.ConfigSelectsClockOrRefuses := by
  intro s p w
  rw [hasStep_iff_enabled, enabled, ← foregroundEnabled_iff, ← configBusy_iff]
  refine ⟨encode_config w, fun en => ⟨fun busy => ?_, fun ⟨hrun, hovf, hcapt⟩ => ?_⟩, id⟩
  · exact exec_config_next.2 ⟨en, (configure_busy busy).symm⟩
  · have idle : configBusy s = false := by simp [configBusy, hrun, hovf, hcapt]
    refine ⟨fun hp noKey => ?_, ?_, fun d hp key => ?_⟩
    · exact exec_config_next.2 ⟨en, (configure_badPrescaler idle hp noKey).symm⟩
    · rintro rfl
      exact exec_config_next.2 ⟨en, (configure_noClock idle).symm⟩
    · exact exec_config_next.2 ⟨en, (configure_clock idle hp key).symm⟩

/-- Settles O20: with NO_CLOCK a CONFIG that is not refused only deselects the clock, and START writes nothing without
one. -/
theorem noClockDisablesStart : Obligations.NoClockDisablesStart := by
  refine ⟨fun s t w h hlabel => ?_, fun p w => ?_⟩
  · obtain ⟨en, rfl⟩ := exec_config_next.1 h
    have idle : configBusy s = false := by
      by_contra hb
      simp [configure_busy (Bool.eq_true_of_not_eq_false hb)] at hlabel
    rw [configure_noClock idle]
    exact ⟨rfl, exec_start_next.2 ⟨en, rfl⟩⟩
  · have idle : configBusy (State.resetWith p) = false := rfl
    exact exec_config_next.2 ⟨rfl, (configure_noClock idle).symm⟩

/-! ### START and STOP -/

/-- Settles O21: the two branches are those of the meaning. -/
theorem startEnablesUnlessNoClock : Obligations.StartEnablesUnlessNoClock := by
  intro s
  rw [hasStep_iff_enabled, enabled, ← foregroundEnabled_iff]
  exact ⟨rfl, fun en => exec_start_next.2 ⟨en, (apply_ite (emit .none) _ s (setEnables true s)).symm⟩, id⟩

/-- Settles O22: the three enables are what STOP writes. -/
theorem stopDisablesAndKeepsFlags : Obligations.StopDisablesAndKeepsFlags := by
  intro s
  rw [hasStep_iff_enabled, enabled, ← foregroundEnabled_iff]
  exact ⟨rfl, fun en => exec_stop_next.2 ⟨en, rfl⟩, id⟩

/-! ### Callback registration -/

/-- The word of an operation with a one-byte operand in range (R55). -/
theorem wordOf_ofNat (o : BitVec 8) {n : Nat} (h : n < 256) :
    wordOf o (BitVec.ofNat 8 n) = BitVec.ofNat 16 (256 * o.toNat + n) := by
  refine BitVec.eq_of_toNat_eq ?_
  rw [toNat_wordOf, BitVec.toNat_ofNat, BitVec.toNat_ofNat]
  omega

/-- Settles O23: one equation of `registerCallback` per slot case. -/
theorem setOverflowCallbackRegisters : Obligations.SetOverflowCallbackRegisters := by
  intro s n
  rw [hasStep_iff_enabled, enabled, ← foregroundEnabled_iff]
  refine ⟨fun hn => congrArg (OpRecord.mk · none) (wordOf_ofNat 0x23 hn), fun en => ⟨?_, ?_, ?_⟩, id⟩
  · rintro rfl
    exact exec_setOvfCb_next.2 ⟨en, rfl⟩
  · intro h hn key
    exact exec_setOvfCb_next.2 ⟨en, (registerCallback_key (l := .overflow) hn key).symm⟩
  · intro hn noKey
    exact exec_setOvfCb_next.2 ⟨en, (registerCallback_unknown hn noKey).symm⟩

/-- Settles O24: the same equations at the capture level. -/
theorem setCaptureCallbackRegisters : Obligations.SetCaptureCallbackRegisters := by
  intro s n
  rw [hasStep_iff_enabled, enabled, ← foregroundEnabled_iff]
  refine ⟨fun hn => congrArg (OpRecord.mk · none) (wordOf_ofNat 0x24 hn), fun en => ⟨?_, ?_, ?_⟩, id⟩
  · rintro rfl
    exact exec_setCaptCb_next.2 ⟨en, rfl⟩
  · intro h hn key
    exact exec_setCaptCb_next.2 ⟨en, (registerCallback_key (l := .capture) hn key).symm⟩
  · intro hn noKey
    exact exec_setCaptCb_next.2 ⟨en, (registerCallback_unknown hn noKey).symm⟩

/-- A registered callback stays registered: the setters write a handle, and nothing else writes the registers. -/
theorem callbackOf_ne_none_of_taken (l : IrqLevel) (h : Taken s i t) (hs : callbackOf l s ≠ none) :
    callbackOf l t ≠ none := by
  cases l <;> cases h with
  | setOvfCb | setCaptCb => simp_all [callbackOf]
  | _ => simpa [callbackOf] using hs

/-- Settles O40: neither taking an operation nor refusing a record removes a callback. -/
theorem callbacksAreNeverRemoved : Obligations.CallbacksAreNeverRemoved := by
  intro s t h
  obtain ⟨_, ⟨_, htaken⟩ | ⟨_, rfl⟩⟩ := step_taken h
  · have hkept (l : IrqLevel) := callbackOf_ne_none_of_taken l htaken
    exact ⟨hkept .overflow, hkept .capture⟩
  · exact ⟨id, id⟩

/-! ### The getters -/

/-- Settles O25: only the label is written. -/
theorem getTickTimeReports : Obligations.GetTickTimeReports := by
  intro s
  rw [hasStep_iff_enabled, enabled, ← foregroundEnabled_iff]
  exact ⟨rfl, fun en => exec_getTickTime_next.2 ⟨en, rfl⟩, id⟩

/-- Settles O26: only the label is written, by `tmul` itself and not by `ticksToTime`. -/
theorem getCaptureWindowReports : Obligations.GetCaptureWindowReports := by
  intro s
  rw [hasStep_iff_enabled, enabled, ← foregroundEnabled_iff]
  exact ⟨rfl, fun en => exec_getCaptureWindow_next.2 ⟨en, rfl⟩, id⟩

/-! ### When the tick time and the window may change -/

/-- Only a CONFIG that is not refused writes them, and it finds the block stopped (R94). -/
theorem window_of_taken (h : Taken s i t) :
    (t.tickTime = s.tickTime ∧ t.windowTicks = s.windowTicks) ∨ configBusy s = false := by
  cases h with
  | configClock _ idle => exact .inr idle
  | _ => exact .inl (by simp)

/-- A service waits for its own enable, which keeps CONFIG out (R71, R80, R94). -/
theorem configBusy_of_service (h : HasStep .captSvc s ∨ HasStep .ovfSvc s) : configBusy s = true := by
  rw [configBusy_iff]
  obtain en | en := h.imp (hasStep_iff_enabled _ s).1 (hasStep_iff_enabled _ s).1
  · obtain ⟨-, hcapt, -⟩ := (captSvcEnabled_iff s).1 en
    exact .inr (.inr hcapt)
  · obtain ⟨-, hovf, -⟩ := (ovfSvcEnabled_iff s).1 en
    exact .inr (.inl hovf)

/-- Settles O41: a change finds the block stopped, and where a service can run the block is not. -/
theorem configurationChangesOnlyWhileStopped : Obligations.ConfigurationChangesOnlyWhileStopped := by
  intro i s t h
  obtain ⟨htick, hwindow⟩ | idle := window_of_taken (exec_taken h)
  · exact ⟨fun hchange => absurd hchange (by simp [htick, hwindow]), fun _ => ⟨htick, hwindow⟩⟩
  · refine ⟨fun _ => by simpa [configBusy, and_assoc] using idle, fun hservice => ?_⟩
    simp [configBusy_of_service hservice] at idle

/-! ### The engine's state -/

/-- The nine fields R93 keeps from configuration, control and registration. -/
structure EngineFields where
  acc : U64
  curRise : U64
  prevRise : U64
  fall : U64
  tcnt : Ctr
  icr : Ctr
  ovfPending : Bool
  icf : Bool
  edgeSel : EdgeKind

/-- The state with other values in those fields. -/
def withEngine (g : EngineFields) (s : State) : State :=
  { s with acc := g.acc, curRise := g.curRise, prevRise := g.prevRise, fall := g.fall, tcnt := g.tcnt, icr := g.icr,
           ovfPending := g.ovfPending, icf := g.icf, edgeSel := g.edgeSel }

/-- The values the state has there. -/
def engineOf (s : State) : EngineFields :=
  ⟨s.acc, s.curRise, s.prevRise, s.fall, s.tcnt, s.icr, s.ovfPending, s.icf, s.edgeSel⟩

theorem withEngine_engineOf (s : State) : withEngine (engineOf s) s = s := rfl

theorem configure_withEngine (p : Nat) (w : Option Time) (g : EngineFields) (s : State) :
    configure p w (withEngine g s) = withEngine g (configure p w s) := by
  obtain ⟨hb, e⟩ | ⟨hb, rfl, e⟩ | ⟨hb, hp, noKey, e⟩ | ⟨d, hb, hp, key, e⟩ := configure_cases p w s <;> rw [e]
  · exact configure_busy hb
  · exact configure_noClock hb
  · exact configure_badPrescaler hb hp noKey
  · exact configure_clock hb hp key

theorem registerCallback_withEngine (l : IrqLevel) (n : Nat) (g : EngineFields) (s : State) :
    registerCallback l n (withEngine g s) = withEngine g (registerCallback l n s) := by
  obtain ⟨rfl, e⟩ | ⟨hn, noKey, e⟩ | ⟨h, hn, key, e⟩ := registerCallback_cases l n s <;> rw [e]
  · rfl
  · exact registerCallback_unknown hn noKey
  · rw [registerCallback_key (s := withEngine g s) hn key]
    cases l <;> rfl

theorem start_withEngine (g : EngineFields) (s : State) :
    emit .none (if (withEngine g s).clkSel = 0 then withEngine g s else setEnables true (withEngine g s)) =
      withEngine g (emit .none (if s.clkSel = 0 then s else setEnables true s)) := by
  have hsel : (withEngine g s).clkSel = s.clkSel := rfl
  rw [hsel]
  split <;> rfl

/-- Every meaning but the query's waits for the foreground and then makes a change that commutes with any values of
the engine's fields. -/
theorem exec_eq_whenEnabled_foreground (hagent : i.agent = .foreground) (hquery : i ≠ .getDutyAndPeriod) :
    ∃ f : State → State, (∀ s, exec i s = whenEnabled .foreground (foregroundEnabled s) (f s)) ∧
      ∀ g s, f (withEngine g s) = withEngine g (f s) := by
  cases i with
  | config p w => exact ⟨_, fun _ => rfl, configure_withEngine p w⟩
  | start => exact ⟨_, fun _ => rfl, start_withEngine⟩
  | stop => exact ⟨_, fun _ => rfl, fun _ _ => rfl⟩
  | setOvfCb n => exact ⟨_, fun _ => rfl, registerCallback_withEngine .overflow n⟩
  | setCaptCb n => exact ⟨_, fun _ => rfl, registerCallback_withEngine .capture n⟩
  | getTickTime => exact ⟨_, fun _ => rfl, fun _ _ => rfl⟩
  | getCaptureWindow => exact ⟨_, fun _ => rfl, fun _ _ => rfl⟩
  | getDutyAndPeriod => exact absurd rfl hquery
  | _ => nomatch hagent

/-- Settles O31: the change commutes with any values of the engine's fields; with those of the pre-state this says
that it keeps them. -/
theorem configurationIgnoresEngineState : Obligations.ConfigurationIgnoresEngineState := by
  intro i hagent hquery s acc curRise prevRise fall tcnt icr pending flag e
  obtain ⟨f, hexec, hcomm⟩ := exec_eq_whenEnabled_foreground hagent hquery
  refine ⟨fun ⟨t, ht⟩ => ?_, ?_, fun t ht => ?_⟩
  · rw [hexec, whenEnabled_eq_next] at ht
    exact (foregroundEnabled_iff s).1 ht.1
  · refine (hexec (withEngine ⟨acc, curRise, prevRise, fall, tcnt, icr, pending, flag, e⟩ s)).trans ?_
    rw [hcomm, hexec s]
    cases en : foregroundEnabled s with
    | true => exact if_pos en
    | false => exact if_neg (ne_true_of_eq_false en)
  · rw [hexec, whenEnabled_eq_next] at ht
    have hkept : f s = withEngine (engineOf s) (f s) := by
      rw [← hcomm, withEngine_engineOf]
    rw [ht.2, hkept]
    exact ⟨rfl, rfl, rfl, rfl, rfl, rfl, rfl, rfl, rfl⟩

end Sys2Proof.Machine
end

section
/-! SUPPORT. Interrupts and refusals: who may step (R104, R107), the priority of the capture level (R106, R113, R132)
and what a refused record leaves (R111). -/

namespace Sys2Proof.Machine

variable {i : Instr} {s t : State}

/-! ### Who may step -/

/-- The conditions of the environment read RUNNING, PIN and EDGE_SEL alone. -/
theorem enabled_environment (hagent : i.agent = .environment) (s : State) (ovf capt flag pending : Bool) :
    enabled i { s with ctxOvf := ovf, ctxCapt := capt, icf := flag, ovfPending := pending } = enabled i s := by
  cases i with
  | tick | edge | edgeMiss => rfl
  | _ => nomatch hagent

theorem enabled_foreground (hagent : i.agent = .foreground) (s : State) : enabled i s = foregroundEnabled s := by
  cases i with
  | tick | edge | edgeMiss | ovfSvc | captSvc | ovfCbRet | captCbRet => nomatch hagent
  | _ => rfl

/-- Settles O33: each condition is the enabling condition of its operation, and none reads a context or a flag. -/
theorem environmentIsNeverBlocked : Obligations.EnvironmentIsNeverBlocked := by
  simp only [Obligations.EnvironmentIsNeverBlocked, hasStep_iff_enabled]
  refine ⟨fun _ => Iff.rfl, edgeEnabled_iff, fun k s => ?_, fun i s a b c d hagent => ?_⟩
  · rw [← edgeEnabled_iff]
    exact edgeMissEnabled_iff k s
  · rw [enabled_environment hagent s a b c d]

/-- Settles O34: the foreground operations share one condition, which reads the two context bits. -/
theorem foregroundOnlyOutsideCallbacks : Obligations.ForegroundOnlyOutsideCallbacks := by
  intro i s hagent
  rw [hasStep_iff_enabled, enabled_foreground hagent, foregroundEnabled_iff]

/-! ### The priority of the capture level -/

/-- The capture request keeps the overflow service out (R106). -/
theorem not_hasStep_ovfSvc_of_irqCapt (hreq : irqCapt s = true) : ¬ HasStep .ovfSvc s := by
  rw [hasStep_iff_enabled]
  simp [enabled, ovfSvcEnabled, hreq]

/-- Settles O35: the capture service takes down its own request and leaves the overflow's, which then waits only for
the capture callback, if one is registered. -/
theorem captureIsServicedBeforeOverflow : Obligations.CaptureIsServicedBeforeOverflow := by
  intro s hcapt hovf hctxOvf hctxCapt
  obtain ⟨hpending, hovfIe⟩ : s.ovfPending = true ∧ s.ovfIe = true := by simpa [irqOvf] using hovf
  have en : captSvcEnabled s = true := by simp [captSvcEnabled, hcapt, hctxCapt]
  refine ⟨not_hasStep_ovfSvc_of_irqCapt hcapt, _, exec_captSvc_next.2 ⟨en, rfl⟩, by simpa using hpending, by simp, ?_⟩
  rw [hasStep_iff_enabled, enabled, ovfSvcEnabled_iff]
  simp [hpending, hovfIe, hctxOvf, hctxCapt]

/-! ### Refused records -/

/-- An operation that ends with the label of a refusal has refused its record and done nothing else. -/
theorem eq_refuse_of_taken {e : RefuseReason} (h : Taken s i t) (hlabel : t.label = .refused e) : t = refuse e s := by
  cases h with
  | configBusy | configBadPrescaler | setOvfCbUnknown | setCaptCbUnknown =>
    cases hlabel
    rfl
  | ovfSvc | captSvc => exact absurd hlabel (enterCallback_label_ne_refused _ _ e)
  | getDutyAndPeriod => exact absurd hlabel (queryLabel_ne_refused _ _ _ e)
  | _ => simp at hlabel

/-- Settles O42: the operation refuses its record, or the decoder does, each with the record off the trace. -/
theorem refusalWritesNoBlockState : Obligations.RefusalWritesNoBlockState := by
  intro s t e hstep hlabel
  obtain ⟨r, rest, htrace, hcases⟩ := step_cases hstep
  have ht : t = refuse e { s with trace := rest } := by
    obtain ⟨i, -, -, hexec⟩ | ⟨e', -, -, rfl⟩ := hcases
    · exact eq_refuse_of_taken (exec_taken hexec) hlabel
    · cases hlabel
      rfl
  rw [ht, htrace]
  rfl

end Sys2Proof.Machine
end

section
/-! SUPPORT. Fair infinite runs service a raised capture request (R105, R116). -/

namespace Sys2Proof.Machine

variable {st : Nat → State} {op : Nat → Instr} {n : Nat}

/-- Only CAPT_SVC enters the capture callback. -/
theorem ctxCapt_eq_false_of_taken {i : Instr} {s t : State} (h : Taken s i t) (hsvc : i ≠ .captSvc)
    (hout : s.ctxCapt = false) : t.ctxCapt = false := by
  obtain heq | ⟨hi, -⟩ | ⟨-, hclear⟩ := ctxCapt_of_taken h
  · exact heq.trans hout
  · exact absurd hi hsvc
  · exact hclear

theorem irqCapt_of_unserviced (run : InfiniteRun st op) (hreq : irqCapt (st n) = true)
    (hstop : ∀ m, n ≤ m → op m ≠ .stop) (hsvc : ∀ m, n ≤ m → op m ≠ .captSvc) :
    ∀ m, n ≤ m → irqCapt (st m) = true :=
  Nat.le_induction hreq fun m hm ih => captureRequestStaysRaised _ _ _ ih (run m) (hsvc m hm) (hstop m hm)

theorem ctxCapt_of_unserviced (run : InfiniteRun st op) (hout : (st n).ctxCapt = false)
    (hsvc : ∀ m, n ≤ m → op m ≠ .captSvc) : ∀ m, n ≤ m → (st m).ctxCapt = false :=
  Nat.le_induction hout fun m hm ih => ctxCapt_eq_false_of_taken (exec_taken (run m)) (hsvc m hm) ih

/-- A fair run leaves the capture callback: while it is inside, CAPT_CB_RET is enabled. -/
theorem exists_outside_capture (run : InfiniteRun st op) (fair : WeaklyFair st op .captCbRet) (n : Nat) :
    ∃ m, n ≤ m ∧ (st m).ctxCapt = false := by
  by_contra hinside
  have hctx : ∀ m, n ≤ m → (st m).ctxCapt = true := by simpa using hinside
  obtain ⟨m, hm, hop⟩ := fair n hctx
  have hret : exec .captCbRet (st m) = .next (st (m + 1)) := hop ▸ run m
  obtain ⟨-, hnext⟩ := exec_captCbRet_next.1 hret
  exact hinside ⟨m + 1, by omega, by simp [hnext]⟩

/-- Settles O55: if the request were never serviced it would stay raised; the run leaves the capture callback and does
not enter it again, so that CAPT_SVC is enabled from there on, and fairness takes it. -/
theorem fairRunsServiceCaptures : Obligations.FairRunsServiceCaptures := by
  rintro st op n ⟨run, fairSvc, -, fairRet, -⟩ hreq hstop
  by_contra hnever
  have hsvc : ∀ m, n ≤ m → op m ≠ .captSvc := by simpa using hnever
  have hraised := irqCapt_of_unserviced run hreq hstop hsvc
  obtain ⟨k, hk, hout⟩ := exists_outside_capture run fairRet n
  have houtside := ctxCapt_of_unserviced run hout fun m hm => hsvc m (hk.trans hm)
  have henabled : ∀ m, k ≤ m → captSvcEnabled (st m) = true := fun m hm => by
    simp [captSvcEnabled, hraised m (hk.trans hm), houtside m hm]
  obtain ⟨m, hm, hop⟩ := fairSvc k henabled
  exact hsvc m (hk.trans hm) hop

end Sys2Proof.Machine
end

section
/-! SUPPORT. The invariant of runs within the latencies of LAT (R127): no wrap is lost, the race rule composes the
extended counter value at the edge, and stored timestamps do not decrease. -/

namespace Sys2Proof.Machine

variable {i : Instr} {s t : State} {h : History}

/-! ### Extended counter values -/

theorem extendedNow_lt (hlt : s.tcnt.toNat < s.params.modulus) :
    extendedNow s h < s.params.modulus * (h.wraps + 1) := by
  rw [extendedNow, Nat.mul_succ]
  omega

theorem timestampBound_of_pending (hicf : s.icf = true) : timestampBound s h = extendedAtLatch s h := if_pos hicf

theorem timestampBound_of_idle (hicf : s.icf = false) : timestampBound s h = extendedNow s h := by
  simp [timestampBound, hicf]

/-- A pending capture lies in the past. -/
theorem LatInv.extendedAtLatch_le (hi : LatInv s h) (hicf : s.icf = true) :
    extendedAtLatch s h ≤ extendedNow s h := by
  have := hi.since_latch hicf
  omega

theorem LatInv.timestampBound_le (hi : LatInv s h) : timestampBound s h ≤ extendedNow s h := by
  cases hicf : s.icf with
  | true => exact timestampBound_of_pending hicf ▸ hi.extendedAtLatch_le hicf
  | false => exact (timestampBound_of_idle hicf).le

/-! ### Updates of fields the invariant does not read -/

/-- Besides what `Inv` reads, the invariant reads the engine's fields and the parameters. -/
theorem latInv_of_frame (hframe : engineOf t = engineOf s ∧ t.params = s.params) (hinv : Inv t) (hi : LatInv s h) :
    LatInv t h := by
  obtain ⟨hengine, hparams⟩ := hframe
  have ht : t = withEngine (engineOf s) { t with params := s.params } := by rw [← hengine, ← hparams]; rfl
  rw [ht] at hinv ⊢
  exact { hi with inv := hinv, history := historyInv_of_frame (s := s) ⟨rfl, rfl, rfl, rfl, rfl⟩ hi.history }

theorem latInv_withTrace (tr : List OpRecord) (hi : LatInv s h) : LatInv { s with trace := tr } h :=
  latInv_of_frame (by simp [engineOf]) (inv_withTrace tr hi.inv) hi

/-! ### A TICK -/

/-- P_OVF keeps the flag of one wrap from meeting the next (R127). -/
theorem LatInv.ovfPending_of_counterAtTop (hi : LatInv s h) (htop : counterAtTop s = true) :
    s.ovfPending = false := by
  by_contra hset
  have hpending : s.ovfPending = true := by simpa using hset
  have hflag := hi.since_flag hpending
  have hlat := hi.p_ovf hpending
  have hcount := (counterAtTop_iff s).1 htop
  have hM := two_le_modulus s.params
  omega

/-- Below the top a TICK adds one to the counter, with no wrap of its 16 bits. -/
theorem advanceCounter_tcnt_of_below (hlt : s.tcnt.toNat < s.params.modulus) (hbelow : counterAtTop s = false) :
    (advanceCounter s).tcnt.toNat = s.tcnt.toNat + 1 := by
  have hne : s.tcnt.toNat ≠ s.params.modulus - 1 := by simpa [counterAtTop] using hbelow
  rw [advanceCounter_tcnt_toNat hlt, Nat.mod_eq_of_lt (by omega)]

/-- The extended counter counts every TICK: a wrap moves M from the counter to the wraps. -/
theorem extendedNow_advanceCounter (hlt : s.tcnt.toNat < s.params.modulus) :
    extendedNow (advanceCounter s) (h.tick s) = extendedNow s h + 1 := by
  cases htop : counterAtTop s with
  | true =>
    have hcount := (counterAtTop_iff s).1 htop
    have hzero : (advanceCounter s).tcnt.toNat = 0 := by simp [advanceCounter_tcnt, htop]
    simp only [extendedNow, History.tick, advanceCounter_params, hzero, htop, if_true, Nat.mul_succ]
    omega
  | false =>
    rw [extendedNow, advanceCounter_tcnt_of_below hlt htop]
    simp [extendedNow, History.tick, htop, Nat.add_assoc]

theorem extendedAtLatch_advanceCounter : extendedAtLatch (advanceCounter s) (h.tick s) = extendedAtLatch s h := by
  simp [extendedAtLatch, History.tick]

theorem timestampBound_le_advanceCounter (hlt : s.tcnt.toNat < s.params.modulus) :
    timestampBound s h ≤ timestampBound (advanceCounter s) (h.tick s) := by
  simp only [timestampBound, advanceCounter_icf, extendedAtLatch_advanceCounter, extendedNow_advanceCounter hlt]
  split <;> omega

theorem History.wraps_le_tick : h.wraps ≤ (h.tick s).wraps := by
  simp only [History.tick]
  split <;> omega

theorem latInv_advanceCounter (hovf : POvf (advanceCounter s) (h.tick s)) (hi : LatInv s h) :
    LatInv (advanceCounter s) (h.tick s) := by
  have hlt := hi.inv.tcnt_lt
  have hbound : timestampBound s h ≤ timestampBound (advanceCounter s) (h.tick s) :=
    timestampBound_le_advanceCounter hlt
  have hroom : (advanceCounter s).params.modulus * ((h.tick s).wraps + 1) ≤ 2 ^ 64 →
      s.params.modulus * (h.wraps + 1) ≤ 2 ^ 64 := by
    rw [advanceCounter_params]
    exact (Nat.mul_le_mul_left _ (Nat.succ_le_succ History.wraps_le_tick)).trans
  exact
    { inv := inv_advanceCounter hi.inv
      history := historyInv_advanceCounter hi.history
      no_lost_wrap := by
        have hcount := hi.no_lost_wrap
        cases htop : counterAtTop s with
        | true =>
          simpa [History.tick, advanceCounter_ovfPending, htop, hi.ovfPending_of_counterAtTop htop] using hcount
        | false => simpa [History.tick, advanceCounter_ovfPending, htop] using hcount
      since_flag := by
        cases htop : counterAtTop s with
        | true => simp [History.tick, advanceCounter_tcnt, htop, hi.ovfPending_of_counterAtTop htop]
        | false =>
          rw [advanceCounter_tcnt_of_below hlt htop]
          simpa [History.tick, advanceCounter_ovfPending, htop] using hi.since_flag
      p_ovf := hovf
      since_latch := fun hicf => by
        have hticks := hi.since_latch (by simpa using hicf)
        rw [extendedAtLatch_advanceCounter, extendedNow_advanceCounter hlt, ← hticks]
        rfl
      acc_at_latch := fun hicf => by
        obtain hall | ⟨hone, hwraps, hpending⟩ := hi.acc_at_latch (by simpa using hicf)
        · exact .inl hall
        · have hbelow : counterAtTop s = false := by
            by_contra htop
            simp [hi.ovfPending_of_counterAtTop (by simpa using htop)] at hpending
          exact .inr ⟨hone, by simpa [History.tick, hbelow] using hwraps,
            by simp [advanceCounter_ovfPending, hpending]⟩
      curRise_le := fun hle => by simpa using (hi.curRise_le (hroom hle)).trans hbound
      fall_le := fun hle => by simpa using (hi.fall_le (hroom hle)).trans hbound
      rises_ordered := fun hle => by simpa using hi.rises_ordered (hroom hle) }

/-! ### An armed EDGE -/

theorem extendedAtLatch_latchCapture :
    extendedAtLatch (latchCapture s) (h.edge s.edgeSel s) = extendedNow s h := by
  simp [extendedAtLatch, extendedNow, History.edge_armed]

theorem latInv_latchCapture (hi : LatInv s h) : LatInv (latchCapture s) (h.edge s.edgeSel s) := by
  have hbound : timestampBound s h ≤ timestampBound (latchCapture s) (h.edge s.edgeSel s) := by
    rw [timestampBound_of_pending (latchCapture_icf s), extendedAtLatch_latchCapture]
    exact hi.timestampBound_le
  have hhistory := historyInv_latchCapture hi.history
  rw [History.edge_armed] at hbound hhistory ⊢
  exact
    { inv := inv_latchCapture hi.inv
      history := hhistory
      no_lost_wrap := hi.no_lost_wrap
      since_flag := hi.since_flag
      p_ovf := hi.p_ovf
      since_latch := fun _ => rfl
      acc_at_latch := fun _ => by
        have hcount := hi.no_lost_wrap
        cases hpending : s.ovfPending with
        | true => exact .inr ⟨by simpa [hpending] using hcount, rfl, hpending⟩
        | false => exact .inl (by simpa [hpending] using hcount)
      curRise_le := fun hle => (hi.curRise_le hle).trans hbound
      fall_le := fun hle => (hi.fall_le hle).trans hbound
      rises_ordered := hi.rises_ordered }

/-! ### The overflow service -/

/-- The enables of both levels go together, so the priority gate keeps the overflow service until no capture is
pending (R106). -/
theorem icf_of_ovfSvcEnabled (hi : Inv s) (en : ovfSvcEnabled s = true) : s.icf = false := by
  obtain ⟨-, hie, -, -, hgate⟩ := (ovfSvcEnabled_iff s).1 en
  have hcapt : s.captIe = true := by rw [hi.captIe_eq, ← hi.ovfIe_eq, hie]
  simpa [hcapt] using hgate

theorem latInv_serviceOverflow (hpending : s.ovfPending = true) (hicf : s.icf = false) (hi : LatInv s h) :
    LatInv (serviceOverflow s) (h.take .ovfSvc s) where
  inv := inv_serviceOverflow hi.inv
  history := historyInv_serviceOverflow hpending hi.history
  no_lost_wrap := by simpa [History.take, hpending] using hi.no_lost_wrap
  since_flag := nofun
  p_ovf := nofun
  since_latch := fun hset => absurd hset (by simp [hicf])
  acc_at_latch := fun hset => absurd hset (by simp [hicf])
  curRise_le := hi.curRise_le
  fall_le := hi.fall_le
  rises_ordered := hi.rises_ordered

/-! ### The capture service -/

/-- The half-modulus test tells a wrap before the edge from one after it: a wrap that preceded the edge is at most
`M / 2` ticks old and leaves ICR small, and one that followed it lies with the edge within the service's latency and
leaves ICR large (R127). -/
theorem LatInv.wrapsAtLatch_eq (hi : LatInv s h) (hicf : s.icf = true)
    (hlat : 2 * h.sinceLatch < s.params.modulus) :
    h.wrapsAtLatch = h.services + if s.ovfPending = true ∧ 2 * s.icr.toNat < s.params.modulus then 1 else 0 := by
  have hticks := hi.since_latch hicf
  have hcount := hi.no_lost_wrap
  simp only [extendedAtLatch, extendedNow] at hticks
  obtain hall | ⟨hone, hwraps, hpending⟩ := hi.acc_at_latch hicf
  · have hlate : ¬ (s.ovfPending = true ∧ 2 * s.icr.toNat < s.params.modulus) := by
      rintro ⟨hpending, hsmall⟩
      rw [hpending, Bool.toNat_true, hall] at hcount
      rw [← hcount, Nat.mul_succ] at hticks
      omega
    rw [if_neg hlate, hall, Nat.add_zero]
  · have hflag := hi.since_flag hpending
    have hovf := hi.p_ovf hpending
    rw [hwraps] at hticks
    rw [if_pos ⟨hpending, by omega⟩, hone]

/-- The race rule is exact: the composed timestamp is the extended counter value at the edge (R127). -/
theorem LatInv.captureTimestamp_eq (hi : LatInv s h) (hicf : s.icf = true)
    (hlat : 2 * h.sinceLatch < s.params.modulus) : captureTimestamp s = BitVec.ofNat 64 (extendedAtLatch s h) := by
  refine BitVec.eq_of_toNat_eq ?_
  rw [captureTimestamp, composeAppliesRaceRule, hi.history.acc_eq, BitVec.toNat_ofNat, Nat.add_assoc,
    Nat.mod_add_mod, extendedAtLatch, hi.wrapsAtLatch_eq hicf hlat]
  split <;> congr 1 <;> ring

/-- Before the 64-bit wrap it is that value as a number. -/
theorem LatInv.captureTimestamp_toNat (hi : LatInv s h) (hicf : s.icf = true)
    (hlat : 2 * h.sinceLatch < s.params.modulus) (hroom : s.params.modulus * (h.wraps + 1) ≤ 2 ^ 64) :
    (captureTimestamp s).toNat = timestampBound s h := by
  have hnow := hi.extendedAtLatch_le hicf
  have hend : extendedNow s h < s.params.modulus * (h.wraps + 1) := extendedNow_lt hi.inv.tcnt_lt
  rw [hi.captureTimestamp_eq hicf hlat, BitVec.toNat_ofNat, timestampBound_of_pending hicf,
    Nat.mod_eq_of_lt (by omega)]

/-- Without its capture the bound is the counter's own. -/
theorem latInv_rearmCapture (hi : LatInv s h) : LatInv (rearmCapture s) h where
  inv := inv_rearmCapture hi.inv
  history := historyInv_rearmCapture hi.history
  no_lost_wrap := hi.no_lost_wrap
  since_flag := hi.since_flag
  p_ovf := hi.p_ovf
  since_latch := nofun
  acc_at_latch := nofun
  curRise_le := fun hle => (hi.curRise_le hle).trans hi.timestampBound_le
  fall_le := fun hle => (hi.fall_le hle).trans hi.timestampBound_le
  rises_ordered := hi.rises_ordered

/-- A timestamp between the current rising one and the bound keeps the slots in order, whichever slot it goes to. -/
theorem latInv_storeTimestamp (e : EdgeKind) {ts : U64}
    (hts : s.params.modulus * (h.wraps + 1) ≤ 2 ^ 64 →
      s.curRise.toNat ≤ ts.toNat ∧ ts.toNat ≤ timestampBound s h) (hi : LatInv s h) :
    LatInv (storeTimestamp e ts s) h := by
  have hinv : Inv (storeTimestamp e ts s) := inv_storeTimestamp e ts hi.inv
  have hhistory : HistoryInv (storeTimestamp e ts s) h := historyInv_of_frame (by simp) hi.history
  cases e with
  | rising =>
    exact { hi with inv := hinv, history := hhistory, curRise_le := fun hle => (hts hle).2,
                    rises_ordered := fun hle => (hts hle).1 }
  | falling => exact { hi with inv := hinv, history := hhistory, fall_le := fun hle => (hts hle).2 }

theorem latInv_captureService (hicf : s.icf = true) (hlat : 2 * h.sinceLatch < s.params.modulus) (hi : LatInv s h) :
    LatInv (storeTimestamp s.edgeSel (captureTimestamp s) (rearmCapture s)) h := by
  refine latInv_storeTimestamp _ (fun hroom => ?_) (latInv_rearmCapture hi)
  rw [hi.captureTimestamp_toNat hicf hlat hroom]
  exact ⟨hi.curRise_le hroom, hi.timestampBound_le⟩

/-! ### Every step -/

theorem latInv_of_taken (ht : Taken s i t) (hcapt : i = .captSvc → 2 * h.sinceLatch < s.params.modulus)
    (hovf : POvf t (h.take i s)) (hi : LatInv s h) : LatInv t (h.take i s) := by
  have hinv : Inv t := inv_of_taken ht hi.inv
  cases ht with
  | tick => exact latInv_of_frame (by simp [engineOf]) hinv (latInv_advanceCounter hovf hi)
  | edgeArmed _ armed =>
    subst armed
    exact latInv_of_frame (by simp [engineOf]) hinv (latInv_latchCapture hi)
  | edgeUnarmed _ unarmed =>
    rw [History.take, History.edge_unarmed unarmed]
    exact latInv_of_frame (by simp [engineOf]) hinv hi
  | ovfSvc en =>
    obtain ⟨hpending, -⟩ := (ovfSvcEnabled_iff s).1 en
    have hicf : s.icf = false := icf_of_ovfSvcEnabled hi.inv en
    exact latInv_of_frame (by simp [engineOf]) hinv (latInv_serviceOverflow hpending hicf hi)
  | captSvc en =>
    obtain ⟨hicf, -⟩ := (captSvcEnabled_iff s).1 en
    exact latInv_of_frame (by simp [engineOf]) hinv (latInv_captureService hicf (hcapt rfl) hi)
  | _ => exact latInv_of_frame (by simp [engineOf]) hinv hi

/-- Settles O57: the state updates of TICK, EDGE, OVF_SVC and CAPT_SVC keep the invariant, the other operations and a
refused record write nothing that it reads but what `Inv` covers. -/
theorem latencyInvariantIsKeptByStep : Obligations.LatencyInvariantIsKeptByStep := by
  intro s t h hi hstep hcapt hovf
  have hinv : Inv t := invariantIsKeptByStep s t hi.inv hstep
  obtain ⟨_, rest, -, ⟨i, -, hnext, hexec⟩ | ⟨_, -, hnext, rfl⟩⟩ := step_cases hstep
  · rw [History.after_of_nextInstr hnext, ← History.take_withTrace i s rest] at hovf ⊢
    exact latInv_of_taken (exec_taken hexec) (fun hsvc => hcapt (hsvc ▸ hnext)) hovf (latInv_withTrace rest hi)
  · rw [History.after_of_refused hnext]
    exact latInv_of_frame (by simp [engineOf]) hinv hi

/-! ### Every run that satisfies LAT -/

theorem run_of_latRun {s₀ : State} (run : LatRun s₀ s h) : Run s₀ s h := by
  induction run with
  | start => exact .start
  | more _ hstep _ _ ih => exact .more ih hstep

theorem latInv_of_latRun {s₀ : State} (h₀ : LatInv s₀ .start) (run : LatRun s₀ s h) : LatInv s h := by
  induction run with
  | start => exact h₀
  | more _ hstep hcapt hovf ih => exact latencyInvariantIsKeptByStep _ _ _ ih hstep hcapt hovf

/-- Settles O50: the bound is the invariant of every run, and the equation that of the runs that satisfy LAT. -/
theorem servicesNeverExceedWraps : Obligations.ServicesNeverExceedWraps :=
  fun p tr _ _ => ⟨fun run => (historyInv_of_run (historyInv_boot p tr) run).services_le,
    fun run => (latInv_of_latRun (latInv_boot p tr) run).no_lost_wrap⟩

/-- The capture service stores the composed timestamp in the slot of its kind (R75, R80). -/
theorem stored_of_captSvc (hexec : exec .captSvc s = .next t) :
    (s.edgeSel = .rising → t.curRise = captureTimestamp s) ∧
    (s.edgeSel = .falling → t.fall = captureTimestamp s) := by
  obtain ⟨-, rfl⟩ := exec_captSvc_next.1 hexec
  exact ⟨fun hk => by simp [hk], fun hk => by simp [hk]⟩

/-- Settles O52: the record is a CAPT_SVC, whose composed timestamp the invariant makes exact. -/
theorem raceRuleIsExactUnderLatency : Obligations.RaceRuleIsExactUnderLatency := by
  intro p tr s t h run hsvc hcapt hstep
  have hi : LatInv s h := latInv_of_latRun (latInv_boot p tr) run
  have hparams : s.params = p := params_of_run (run_of_latRun run)
  obtain ⟨_, rest, -, ⟨i, -, hnext, hexec⟩ | ⟨_, -, hnext, -⟩⟩ := step_cases hstep
  · obtain rfl : i = .captSvc := Option.some.inj (hnext.symm.trans hsvc)
    obtain ⟨en, -⟩ := exec_captSvc_next.1 hexec
    obtain ⟨hicf, -⟩ := (captSvcEnabled_iff _).1 en
    obtain ⟨hrising, hfalling⟩ := stored_of_captSvc hexec
    have hexact : captureTimestamp s = BitVec.ofNat 64 (p.modulus * h.wrapsAtLatch + s.icr.toNat) :=
      hparams ▸ hi.captureTimestamp_eq hicf (hcapt hsvc)
    cases hk : s.edgeSel with
    | rising => exact (hrising hk).trans hexact
    | falling => exact (hfalling hk).trans hexact
  · simp [hnext] at hsvc

/-- Only the capture service writes the slots, and it stores the bound of those before. -/
theorem slots_ordered_of_taken (ht : Taken s i t) (hcapt : i = .captSvc → 2 * h.sinceLatch < s.params.modulus)
    (hroom : s.params.modulus * (h.wraps + 1) ≤ 2 ^ 64) (hi : LatInv s h) :
    s.curRise.toNat ≤ t.curRise.toNat ∧ s.fall.toNat ≤ t.fall.toNat ∧ t.prevRise.toNat ≤ t.curRise.toNat := by
  have hrises := hi.rises_ordered hroom
  cases ht with
  | captSvc en =>
    obtain ⟨hicf, -⟩ := (captSvcEnabled_iff s).1 en
    have hstored := hi.captureTimestamp_toNat hicf (hcapt rfl) hroom
    have hcur : s.curRise.toNat ≤ (captureTimestamp s).toNat := hstored ▸ hi.curRise_le hroom
    have hfall : s.fall.toNat ≤ (captureTimestamp s).toNat := hstored ▸ hi.fall_le hroom
    cases hk : s.edgeSel with
    | rising => simp [hcur]
    | falling => simp [hfall, hrises]
  | _ => simp [hrises]

/-- Settles O53: along the run the invariant holds, and with the record off the trace it still does. -/
theorem timestampsDoNotDecreaseUnderLatency : Obligations.TimestampsDoNotDecreaseUnderLatency := by
  intro p tr s t h run hcapt hstep hroom
  have hi : LatInv s h := latInv_of_latRun (latInv_boot p tr) run
  have hparams : s.params = p := params_of_run (run_of_latRun run)
  rw [← hparams] at hroom
  obtain ⟨_, rest, -, ⟨i, -, hnext, hexec⟩ | ⟨_, -, -, rfl⟩⟩ := step_cases hstep
  · exact slots_ordered_of_taken (s := { s with trace := rest }) (exec_taken hexec)
      (fun hsvc => hcapt (hsvc ▸ hnext)) hroom (latInv_withTrace rest hi)
  · exact ⟨le_rfl, le_rfl, hi.rises_ordered hroom⟩

end Sys2Proof.Machine
end

section
/-! SUPPORT. What holds from reset until START: nothing moves, few operations have a step, and the query finds no
measurement (R124). -/

namespace Sys2Proof.Machine

variable {i : Instr} {s t : State} {h : History}

/-! ### Every step but a START -/

theorem beforeStart_withTrace (tr : List OpRecord) (hb : BeforeStart s) : BeforeStart { s with trace := tr } :=
  { hb with }

theorem beforeStart_refuse (e : RefuseReason) (hb : BeforeStart s) : BeforeStart (refuse e s) := { hb with }

/-- Before START the clock and both enables are off and no callback runs. -/
theorem BeforeStart.agent_of_hasStep (hb : BeforeStart s) (hstep : HasStep i s) :
    i.agent = .foreground ∨ ∃ k, i = .edge k ∨ i = .edgeMiss k := by
  have en := (hasStep_iff_enabled i s).1 hstep
  cases i with
  | tick => simp [enabled, tickEnabled, hb.running] at en
  | edge k => exact .inr ⟨k, .inl rfl⟩
  | edgeMiss k => exact .inr ⟨k, .inr rfl⟩
  | ovfSvc => simp [enabled, ovfSvcEnabled_iff, hb.ovfIe] at en
  | captSvc => simp [enabled, captSvcEnabled_iff, hb.captIe] at en
  | ovfCbRet => simp [enabled, ovfCbRetEnabled, hb.ctxOvf] at en
  | captCbRet => simp [enabled, captCbRetEnabled, hb.ctxCapt] at en
  | _ => exact .inl rfl

/-- An armed edge latches the counter, which is 0; STOP writes enables that are 0 already. -/
theorem beforeStart_of_exec (hexec : exec i s = .next t) (hstart : i ≠ .start) (hb : BeforeStart s) :
    BeforeStart t := by
  have hagent := hb.agent_of_hasStep ⟨t, hexec⟩
  cases exec_taken hexec with
  | tick | ovfSvc | captSvc | ovfCbRet | captCbRet => simp [Instr.agent] at hagent
  | startNoClock | start => exact absurd rfl hstart
  | edgeArmed => exact { hb with icr := hb.tcnt }
  | stop => exact { hb with running := rfl, ovfIe := rfl, captIe := rfl }
  | _ => exact { hb with }

theorem beforeStart_of_step (hstep : step s = .next t) (hstart : nextInstr s ≠ some .start) (hb : BeforeStart s) :
    BeforeStart t := by
  obtain ⟨_, rest, -, ⟨i, -, hnext, hexec⟩ | ⟨_, -, -, rfl⟩⟩ := step_cases hstep
  · have hi : i ≠ .start := by
      rintro rfl
      exact hstart hnext
    exact beforeStart_of_exec hexec hi (beforeStart_withTrace rest hb)
  · exact beforeStart_refuse _ (beforeStart_withTrace rest hb)

/-! ### The query -/

/-- With ACC, TCNT and the slots 0 the duty and the period are 0, as in the report of no measurement. -/
theorem BeforeStart.queryLabel_eq (hb : BeforeStart s) (w : U64) (tt : Time) :
    queryLabel (takeSnapshot s) w tt = noMeasurement := by
  have hduty : dutyTicks (takeSnapshot s) = 0 := by
    simp [dutyTicks, takeSnapshot, hb.curRise, hb.fall, sub64]
  have hperiod : periodTicks (takeSnapshot s) = 0 := by
    simp [periodTicks, takeSnapshot, hb.curRise, hb.prevRise, sub64]
  rw [queryLabel, hduty, hperiod, ticksToTime_zero]
  exact ite_self _

theorem BeforeStart.exec_query (hb : BeforeStart s) :
    exec .getDutyAndPeriod s = .next { s with label := .dutyPeriod 0 Config.tzero 0 Config.tzero } := by
  have en : foregroundEnabled s = true := (foregroundEnabled_iff s).2 ⟨hb.ctxOvf, hb.ctxCapt⟩
  rw [exec_getDutyAndPeriod_next.2 ⟨en, rfl⟩, hb.queryLabel_eq]
  rfl

/-- Settles O58: a step lemma, the enabling conditions, and a label in which every difference is 0. -/
theorem beforeStartIsKeptUntilStart : Obligations.BeforeStartIsKeptUntilStart :=
  fun _ hb => ⟨fun _ hstep hstart => beforeStart_of_step hstep hstart hb, fun _ => hb.agent_of_hasStep,
    hb.exec_query⟩

/-! ### Runs without a START -/

theorem ne_start_of_nextInstr (hnone : ∀ r ∈ s.trace, decode r ≠ .ok .start) : nextInstr s ≠ some .start := by
  cases htrace : s.trace with
  | nil => simp [nextInstr, htrace]
  | cons r rest =>
    have hr : decode r ≠ .ok .start := hnone r (by simp [htrace])
    cases hd : decode r with
    | ok i => simpa [nextInstr, htrace, hd] using hr
    | error e => simp [nextInstr, htrace, hd]

/-- A step takes the record off its trace and adds none. -/
theorem trace_eq_tail_of_step (hstep : step s = .next t) : t.trace = s.trace.tail := by
  obtain ⟨_, _, htrace, ⟨_, -, -, hexec⟩ | ⟨_, -, -, rfl⟩⟩ := step_cases hstep
  · rw [trace_of_taken (exec_taken hexec), htrace, List.tail_cons]
  · rw [htrace, List.tail_cons]
    rfl

theorem beforeStart_of_run {s₀ : State} (h₀ : BeforeStart s₀) (hnone : ∀ r ∈ s₀.trace, decode r ≠ .ok .start)
    (run : Run s₀ s h) : BeforeStart s ∧ ∀ r ∈ s.trace, decode r ≠ .ok .start := by
  induction run with
  | start => exact ⟨h₀, hnone⟩
  | more _ hstep ih =>
    obtain ⟨hb, hrest⟩ := ih
    refine ⟨beforeStart_of_step hstep (ne_start_of_nextInstr hrest) hb, fun r hr => hrest r ?_⟩
    rw [trace_eq_tail_of_step hstep] at hr
    exact List.mem_of_mem_tail hr

/-- Settles O54, by induction on the run: no record of the trace is a START, so every step keeps what holds before
one. -/
theorem nothingMovesBeforeStart : Obligations.NothingMovesBeforeStart := by
  intro p tr s h hnone run
  obtain ⟨hb, -⟩ := beforeStart_of_run (beforeStart_boot p tr) hnone run
  refine ⟨hb.acc, hb.curRise, hb.prevRise, hb.fall, hb.tcnt, hb.icr, fun i t hexec => ?_⟩
  refine ⟨hb.agent_of_hasStep ⟨t, hexec⟩, ?_⟩
  rintro rfl
  cases hb.exec_query.symm.trans hexec
  rfl

end Sys2Proof.Machine
end

section
/-! SUPPORT. The hazard of a wrap pending at a query (R129), and where runs end (R137). -/

namespace Sys2Proof.Machine

variable {s : State} {n : Snapshot}

/-! ### A wrap pending at the query -/

/-- A signal later than the counter has an age that wraps below zero. -/
theorem ageOf_toNat_of_lt (hlt : n.acc.toNat + n.tcnt.toNat < n.curRise.toNat) :
    (ageOf n).toNat = 2 ^ 64 - (n.curRise.toNat - (n.acc.toNat + n.tcnt.toNat)) := by
  have hcur := n.curRise.isLt
  have hadd : (add64 n.acc (zext64 n.tcnt)).toNat = n.acc.toNat + n.tcnt.toNat := by
    rw [add64, BitVec.toNat_add, zext64_toNat, Nat.mod_eq_of_lt (hlt.trans hcur)]
  rw [ageOf, sub64, BitVec.toNat_sub, hadd]
  omega

/-- Settles O28: the wrapped age exceeds the window. -/
theorem pendingWrapReportsStale : Obligations.PendingWrapReportsStale := by
  intro s hovf hcapt hlater hwindow
  have stale : s.windowTicks < ageOf (takeSnapshot s) := by
    rw [BitVec.lt_def, ageOf_toNat_of_lt (n := takeSnapshot s) hlater]
    exact hwindow
  rw [exec_getDutyAndPeriod_next.2 ⟨(foregroundEnabled_iff s).2 ⟨hovf, hcapt⟩, rfl⟩, queryLabel_eq, if_pos stale]
  rfl

/-! ### The end of a run -/

/-- Settles O3: there is no record to fetch. -/
theorem stepStopsWhereTraceEnds : Obligations.StepStopsWhereTraceEnds := by
  intro s htrace
  rw [step, fetchRecord_nil htrace]

/-- Outside callbacks a service is enabled exactly if a request is raised; of two the capture's comes first. -/
theorem serviceEnabled_of_outside (hovf : s.ctxOvf = false) (hcapt : s.ctxCapt = false) :
    serviceEnabled s = (irqCapt s || irqOvf s) := by
  cases hreq : irqCapt s <;> simp [serviceEnabled, captSvcEnabled, ovfSvcEnabled, hreq, hovf, hcapt]

/-- Settles O47: the conjuncts of `runComplete` are those of the statement, with no service enabled outside callbacks
meaning no request raised. -/
theorem completeMeansNoRequestRaised : Obligations.CompleteMeansNoRequestRaised := by
  intro s
  simp only [runComplete, Bool.and_eq_true, Bool.not_eq_true', and_assoc]
  refine and_congr_right fun _ => and_congr_right fun hovf => and_congr_right fun hcapt => ?_
  rw [serviceEnabled_of_outside hovf hcapt, Bool.or_eq_false_iff]

end Sys2Proof.Machine
end
